-- ==== Sys2Proof/Word.lean ====
section
/-! DEFINITION. Word: the widths of the machine (00_scope.md R2, R5). -/

namespace Sys2Proof

/-- The unit of addressing (20_memory.md R48). -/
abbrev Byte := BitVec 8

/-- A 32-bit value: an instruction word, an address, `pc`, a control register, half a general register. -/
abbrev Word := BitVec 32

/-- A 64-bit value: a general register, `HI`, `LO` (00_scope.md R5). -/
abbrev DWord := BitVec 64

end Sys2Proof
end

