-- ==== Sys2Proof/Syntax.lean ====
section
/-! DEFINITION. Syntax: the instructions, one constructor per row of spec/opcode_table.json.

Every constructor carries EVERY bit of the word that its row leaves free, in the order of the word, also the bits that
30_encoding.md R73 says are ignored: the handler does not read them, but the diagnostic of a fault reports the raw word
(60_exceptions.md R284), and with all bits kept the encoder gives it back. -/

namespace Sys2Proof

/-- A register number field: five bits (30_encoding.md R61). -/
abbrev RegId := BitVec 5

/-- The instructions (30_encoding.md R67 to R70). A field that the row's rule does not name is ignored (R73). -/
inductive Instr where
  -- Rows of the primary table (30_encoding.md R67), by opcode.
  /-- `J` (R153). -/
  | j (target26 : BitVec 26)
  /-- `JAL` (R154). -/
  | jal (target26 : BitVec 26)
  /-- `BEQ` (R156). -/
  | beq (rs rt : RegId) (imm16 : BitVec 16)
  /-- `BNE` (R157). -/
  | bne (rs rt : RegId) (imm16 : BitVec 16)
  /-- `BLEZ` (R158). -/
  | blez (rs rt : RegId) (imm16 : BitVec 16)
  /-- `BGTZ` (R159). -/
  | bgtz (rs rt : RegId) (imm16 : BitVec 16)
  /-- `ADDI` (R115). -/
  | addi (rs rt : RegId) (imm16 : BitVec 16)
  /-- `ADDIU` (R116). -/
  | addiu (rs rt : RegId) (imm16 : BitVec 16)
  /-- `SLTI` (R131). -/
  | slti (rs rt : RegId) (imm16 : BitVec 16)
  /-- `SLTIU` (R132). -/
  | sltiu (rs rt : RegId) (imm16 : BitVec 16)
  /-- `ANDI` (R120). -/
  | andi (rs rt : RegId) (imm16 : BitVec 16)
  /-- `ORI` (R121). -/
  | ori (rs rt : RegId) (imm16 : BitVec 16)
  /-- `XORI` (R122). -/
  | xori (rs rt : RegId) (imm16 : BitVec 16)
  /-- `LUI` (R134, faults). -/
  | lui (rs rt : RegId) (imm16 : BitVec 16)
  /-- `COP1` (R270, faults). -/
  | cop1 (body : BitVec 26)
  /-- `COP2` (R271, faults). -/
  | cop2 (body : BitVec 26)
  /-- `BEQL` (R164). -/
  | beql (rs rt : RegId) (imm16 : BitVec 16)
  /-- `BNEL` (R165). -/
  | bnel (rs rt : RegId) (imm16 : BitVec 16)
  /-- `BLEZL` (R166). -/
  | blezl (rs rt : RegId) (imm16 : BitVec 16)
  /-- `BGTZL` (R167). -/
  | bgtzl (rs rt : RegId) (imm16 : BitVec 16)
  /-- `DADDI` (R255, faults). -/
  | daddi (rs rt : RegId) (imm16 : BitVec 16)
  /-- `DADDIU` (R256, faults). -/
  | daddiu (rs rt : RegId) (imm16 : BitVec 16)
  /-- `LDL` (R197, faults). -/
  | ldl (rs rt : RegId) (imm16 : BitVec 16)
  /-- `LDR` (R198, faults). -/
  | ldr (rs rt : RegId) (imm16 : BitVec 16)
  /-- `LB` (R181). -/
  | lb (rs rt : RegId) (imm16 : BitVec 16)
  /-- `LH` (R187, faults). -/
  | lh (rs rt : RegId) (imm16 : BitVec 16)
  /-- `LWL` (R191, faults). -/
  | lwl (rs rt : RegId) (imm16 : BitVec 16)
  /-- `LW` (R183). -/
  | lw (rs rt : RegId) (imm16 : BitVec 16)
  /-- `LBU` (R182). -/
  | lbu (rs rt : RegId) (imm16 : BitVec 16)
  /-- `LHU` (R188, faults). -/
  | lhu (rs rt : RegId) (imm16 : BitVec 16)
  /-- `LWR` (R192, faults). -/
  | lwr (rs rt : RegId) (imm16 : BitVec 16)
  /-- `LWU` (R189, faults). -/
  | lwu (rs rt : RegId) (imm16 : BitVec 16)
  /-- `SB` (R184). -/
  | sb (rs rt : RegId) (imm16 : BitVec 16)
  /-- `SH` (R190, faults). -/
  | sh (rs rt : RegId) (imm16 : BitVec 16)
  /-- `SWL` (R193, faults). -/
  | swl (rs rt : RegId) (imm16 : BitVec 16)
  /-- `SW` (R185). -/
  | sw (rs rt : RegId) (imm16 : BitVec 16)
  /-- `SDL` (R199, faults). -/
  | sdl (rs rt : RegId) (imm16 : BitVec 16)
  /-- `SDR` (R200, faults). -/
  | sdr (rs rt : RegId) (imm16 : BitVec 16)
  /-- `SWR` (R194, faults). -/
  | swr (rs rt : RegId) (imm16 : BitVec 16)
  /-- `CACHE` (R186). -/
  | cache (rs rt : RegId) (imm16 : BitVec 16)
  /-- `LL` (R201, faults). -/
  | ll (rs rt : RegId) (imm16 : BitVec 16)
  /-- `LWC1` (R205, faults). -/
  | lwc1 (rs rt : RegId) (imm16 : BitVec 16)
  /-- `LWC2` (R209, faults). -/
  | lwc2 (rs rt : RegId) (imm16 : BitVec 16)
  /-- `LLD` (R203, faults). -/
  | lld (rs rt : RegId) (imm16 : BitVec 16)
  /-- `LDC1` (R207, faults). -/
  | ldc1 (rs rt : RegId) (imm16 : BitVec 16)
  /-- `LDC2` (R210, faults). -/
  | ldc2 (rs rt : RegId) (imm16 : BitVec 16)
  /-- `LD` (R195, faults). -/
  | ld (rs rt : RegId) (imm16 : BitVec 16)
  /-- `SC` (R202, faults). -/
  | sc (rs rt : RegId) (imm16 : BitVec 16)
  /-- `SWC1` (R206, faults). -/
  | swc1 (rs rt : RegId) (imm16 : BitVec 16)
  /-- `SWC2` (R211, faults). -/
  | swc2 (rs rt : RegId) (imm16 : BitVec 16)
  /-- `SCD` (R204, faults). -/
  | scd (rs rt : RegId) (imm16 : BitVec 16)
  /-- `SDC1` (R208, faults). -/
  | sdc1 (rs rt : RegId) (imm16 : BitVec 16)
  /-- `SDC2` (R212, faults). -/
  | sdc2 (rs rt : RegId) (imm16 : BitVec 16)
  /-- `SD` (R196, faults). -/
  | sd (rs rt : RegId) (imm16 : BitVec 16)
  -- Rows of the SPECIAL table (R68), by funct.
  /-- `SLL` (R123). -/
  | sll (rs rt rd : RegId) (sa : BitVec 5)
  /-- `SRL` (R124). -/
  | srl (rs rt rd : RegId) (sa : BitVec 5)
  /-- `SRA` (R125). -/
  | sra (rs rt rd : RegId) (sa : BitVec 5)
  /-- `SLLV` (R126). -/
  | sllv (rs rt rd : RegId) (sa : BitVec 5)
  /-- `SRLV` (R127). -/
  | srlv (rs rt rd : RegId) (sa : BitVec 5)
  /-- `SRAV` (R128). -/
  | srav (rs rt rd : RegId) (sa : BitVec 5)
  /-- `JR` (R155). -/
  | jr (rs rt rd : RegId) (sa : BitVec 5)
  /-- `JALR` (R170, faults). -/
  | jalr (rs rt rd : RegId) (sa : BitVec 5)
  /-- `SYSCALL` (R232, faults). -/
  | syscall (code : BitVec 20)
  /-- `BREAK` (R233, faults). -/
  | brk (code : BitVec 20)
  /-- `SYNC` (R234, faults). -/
  | sync (code : BitVec 20)
  /-- `MFHI` (R143). -/
  | mfhi (rs rt rd : RegId) (sa : BitVec 5)
  /-- `MTHI` (R145, faults). -/
  | mthi (rs rt rd : RegId) (sa : BitVec 5)
  /-- `MFLO` (R144). -/
  | mflo (rs rt rd : RegId) (sa : BitVec 5)
  /-- `MTLO` (R146, faults). -/
  | mtlo (rs rt rd : RegId) (sa : BitVec 5)
  /-- `DSLLV` (R260, faults). -/
  | dsllv (rs rt rd : RegId) (sa : BitVec 5)
  /-- `DSRLV` (R261, faults). -/
  | dsrlv (rs rt rd : RegId) (sa : BitVec 5)
  /-- `DSRAV` (R262, faults). -/
  | dsrav (rs rt rd : RegId) (sa : BitVec 5)
  /-- `MULT` (R141). -/
  | mult (rs rt rd : RegId) (sa : BitVec 5)
  /-- `MULTU` (R142). -/
  | multu (rs rt rd : RegId) (sa : BitVec 5)
  /-- `DIV` (R147, faults). -/
  | div (rs rt rd : RegId) (sa : BitVec 5)
  /-- `DIVU` (R148, faults). -/
  | divu (rs rt rd : RegId) (sa : BitVec 5)
  /-- `DMULT` (R266, faults). -/
  | dmult (rs rt rd : RegId) (sa : BitVec 5)
  /-- `DMULTU` (R267, faults). -/
  | dmultu (rs rt rd : RegId) (sa : BitVec 5)
  /-- `DDIV` (R268, faults). -/
  | ddiv (rs rt rd : RegId) (sa : BitVec 5)
  /-- `DDIVU` (R269, faults). -/
  | ddivu (rs rt rd : RegId) (sa : BitVec 5)
  /-- `ADD` (R111). -/
  | add (rs rt rd : RegId) (sa : BitVec 5)
  /-- `ADDU` (R112). -/
  | addu (rs rt rd : RegId) (sa : BitVec 5)
  /-- `SUB` (R113). -/
  | sub (rs rt rd : RegId) (sa : BitVec 5)
  /-- `SUBU` (R114). -/
  | subu (rs rt rd : RegId) (sa : BitVec 5)
  /-- `AND` (R117). -/
  | and (rs rt rd : RegId) (sa : BitVec 5)
  /-- `OR` (R118). -/
  | or (rs rt rd : RegId) (sa : BitVec 5)
  /-- `XOR` (R119). -/
  | xor (rs rt rd : RegId) (sa : BitVec 5)
  /-- `NOR` (R133, faults). -/
  | nor (rs rt rd : RegId) (sa : BitVec 5)
  /-- `SLT` (R129). -/
  | slt (rs rt rd : RegId) (sa : BitVec 5)
  /-- `SLTU` (R130). -/
  | sltu (rs rt rd : RegId) (sa : BitVec 5)
  /-- `DADD` (R251, faults). -/
  | dadd (rs rt rd : RegId) (sa : BitVec 5)
  /-- `DADDU` (R252, faults). -/
  | daddu (rs rt rd : RegId) (sa : BitVec 5)
  /-- `DSUB` (R253, faults). -/
  | dsub (rs rt rd : RegId) (sa : BitVec 5)
  /-- `DSUBU` (R254, faults). -/
  | dsubu (rs rt rd : RegId) (sa : BitVec 5)
  /-- `TGE` (R235, faults). -/
  | tge (rs rt rd : RegId) (sa : BitVec 5)
  /-- `TGEU` (R236, faults). -/
  | tgeu (rs rt rd : RegId) (sa : BitVec 5)
  /-- `TLT` (R237, faults). -/
  | tlt (rs rt rd : RegId) (sa : BitVec 5)
  /-- `TLTU` (R238, faults). -/
  | tltu (rs rt rd : RegId) (sa : BitVec 5)
  /-- `TEQ` (R239, faults). -/
  | teq (rs rt rd : RegId) (sa : BitVec 5)
  /-- `TNE` (R240, faults). -/
  | tne (rs rt rd : RegId) (sa : BitVec 5)
  /-- `DSLL` (R257, faults). -/
  | dsll (rs rt rd : RegId) (sa : BitVec 5)
  /-- `DSRL` (R258, faults). -/
  | dsrl (rs rt rd : RegId) (sa : BitVec 5)
  /-- `DSRA` (R259, faults). -/
  | dsra (rs rt rd : RegId) (sa : BitVec 5)
  /-- `DSLL32` (R263, faults). -/
  | dsll32 (rs rt rd : RegId) (sa : BitVec 5)
  /-- `DSRL32` (R264, faults). -/
  | dsrl32 (rs rt rd : RegId) (sa : BitVec 5)
  /-- `DSRA32` (R265, faults). -/
  | dsra32 (rs rt rd : RegId) (sa : BitVec 5)
  -- Rows of the REGIMM table (R69), by the rt field.
  /-- `BLTZ` (R160). -/
  | bltz (rs : RegId) (imm16 : BitVec 16)
  /-- `BGEZ` (R161). -/
  | bgez (rs : RegId) (imm16 : BitVec 16)
  /-- `BLTZL` (R168). -/
  | bltzl (rs : RegId) (imm16 : BitVec 16)
  /-- `BGEZL` (R169). -/
  | bgezl (rs : RegId) (imm16 : BitVec 16)
  /-- `TGEI` (R241, faults). -/
  | tgei (rs : RegId) (imm16 : BitVec 16)
  /-- `TGEIU` (R242, faults). -/
  | tgeiu (rs : RegId) (imm16 : BitVec 16)
  /-- `TLTI` (R243, faults). -/
  | tlti (rs : RegId) (imm16 : BitVec 16)
  /-- `TLTIU` (R244, faults). -/
  | tltiu (rs : RegId) (imm16 : BitVec 16)
  /-- `TEQI` (R245, faults). -/
  | teqi (rs : RegId) (imm16 : BitVec 16)
  /-- `TNEI` (R246, faults). -/
  | tnei (rs : RegId) (imm16 : BitVec 16)
  /-- `BLTZAL` (R162). -/
  | bltzal (rs : RegId) (imm16 : BitVec 16)
  /-- `BGEZAL` (R163). -/
  | bgezal (rs : RegId) (imm16 : BitVec 16)
  /-- `BLTZALL` (R171, faults). -/
  | bltzall (rs : RegId) (imm16 : BitVec 16)
  /-- `BGEZALL` (R172, faults). -/
  | bgezall (rs : RegId) (imm16 : BitVec 16)
  -- Rows of the coprocessor-0 table (R70), by the rs field.
  /-- `MFC0` (R221). -/
  | mfc0 (rt rd : RegId) (low11 : BitVec 11)
  /-- `DMFC0` (R223, faults). -/
  | dmfc0 (rt rd : RegId) (low11 : BitVec 11)
  /-- `MTC0` (R222). -/
  | mtc0 (rt rd : RegId) (low11 : BitVec 11)
  /-- `DMTC0` (R224, faults). -/
  | dmtc0 (rt rd : RegId) (low11 : BitVec 11)
  /-- `BC0` (R225, faults). -/
  | bc0 (rt : RegId) (imm16 : BitVec 16)
  -- The named words of the CO group, rs at least 16 (R70), by funct.
  /-- `TLBR` (R226, faults). -/
  | tlbr (co : BitVec 19)
  /-- `TLBWI` (R227, faults). -/
  | tlbwi (co : BitVec 19)
  /-- `TLBWR` (R228, faults). -/
  | tlbwr (co : BitVec 19)
  /-- `TLBP` (R229, faults). -/
  | tlbp (co : BitVec 19)
  /-- `ERET` (R230, faults). -/
  | eret (co : BitVec 19)
  deriving DecidableEq, Repr

end Sys2Proof
end

