-- ==== Sys2Proof/WellFormed.lean ====
section
/-! DEFINITION. WellFormed: the instructions whose operands the spec gives a meaning to.

The widths of all fields are in their types, so no field can be out of range. The one operand form the spec calls unspecified
is a linking branch that tests the register it links (43_branch_jump.md R152, decision D38). The decoder reads such a word as
any other (30_encoding.md R73), and the meaning refuses it by name. -/

namespace Sys2Proof

/-- The link register, GPR 31 (43_branch_jump.md R152). -/
def linkReg : RegId := 31

/-- The spec gives the instruction's operands a meaning: `BLTZAL` and `BGEZAL` do not test the link register (43_branch_jump.md
R152, R162, R163). -/
def Instr.wellFormed : Instr → Bool
  | .bltzal rs _ => rs != linkReg
  | .bgezal rs _ => rs != linkReg
  | _ => true

end Sys2Proof
end

