-- ==== Sys2Proof/Decode.lean ====
section
/-! DEFINITION. Decode: field extraction, the four dispatch tables, the encoder, and the opcode table as data.

30_encoding.md: R61 (fields), R66 (dispatch, at most two lookups), R67 to R70 (the tables), R71 (default entry), R73 (ignored
bits). The numeric codes other than the primary opcodes 0, 1 and 16 are the spec's own choice (decision D2). -/

namespace Sys2Proof

/-- `opcode = w[31:26]` (30_encoding.md R61). -/
def opcodeOf (w : Word) : BitVec 6 := w.extractLsb' 26 6
/-- `rs = w[25:21]` (R61). -/
def rsOf (w : Word) : RegId := w.extractLsb' 21 5
/-- `rt = w[20:16]` (R61). -/
def rtOf (w : Word) : RegId := w.extractLsb' 16 5
/-- `rd = w[15:11]` (R61). -/
def rdOf (w : Word) : RegId := w.extractLsb' 11 5
/-- `sa = w[10:6]` (R61). -/
def saOf (w : Word) : BitVec 5 := w.extractLsb' 6 5
/-- `funct = w[5:0]` (R61). -/
def functOf (w : Word) : BitVec 6 := w.extractLsb' 0 6
/-- `imm16 = w[15:0]` (R61). -/
def imm16Of (w : Word) : BitVec 16 := w.extractLsb' 0 16
/-- `target26 = w[25:0]` (R61). -/
def target26Of (w : Word) : BitVec 26 := w.extractLsb' 0 26
/-- `w[10:0]`, the bits a coprocessor-0 move ignores (45_cop0_system.md R221). -/
def low11Of (w : Word) : BitVec 11 := w.extractLsb' 0 11
/-- `w[25:6]`, the code field of `SYSCALL`, `BREAK` and `SYNC` (45_cop0_system.md R232). -/
def codeOf (w : Word) : BitVec 20 := w.extractLsb' 6 20
/-- `w[24:6]`, the free bits of the named words of the CO group (30_encoding.md R70). -/
def coOf (w : Word) : BitVec 19 := w.extractLsb' 6 19

/-- Why a word, or a run of bytes, is no instruction: a RESERVED slot of one of the four tables (30_encoding.md R71), or
fewer than four bytes. -/
inductive DecodeError where
  /-- A reserved primary opcode (46_doubleword_cop1_reserved.md R272). -/
  | reservedPrimary (opcode : BitVec 6)
  /-- A reserved function code (R273). -/
  | reservedSpecial (funct : BitVec 6)
  /-- A reserved register-immediate code (R274). -/
  | reservedRegimm (rt : RegId)
  /-- A reserved coprocessor-0 word (45_cop0_system.md R231). -/
  | reservedCop0 (rs : RegId) (funct : BitVec 6)
  /-- Fewer than the four bytes of an instruction (30_encoding.md R60); the fetch never meets it. -/
  | truncated (count : Nat)
  deriving DecidableEq, Repr

/-- The SPECIAL table, indexed by `funct` (30_encoding.md R68). -/
def decodeSpecial (funct : BitVec 6) (w : Word) : Except DecodeError Instr :=
  match funct with
  | 0#6 => .ok (.sll (rsOf w) (rtOf w) (rdOf w) (saOf w))
  | 2#6 => .ok (.srl (rsOf w) (rtOf w) (rdOf w) (saOf w))
  | 3#6 => .ok (.sra (rsOf w) (rtOf w) (rdOf w) (saOf w))
  | 4#6 => .ok (.sllv (rsOf w) (rtOf w) (rdOf w) (saOf w))
  | 6#6 => .ok (.srlv (rsOf w) (rtOf w) (rdOf w) (saOf w))
  | 7#6 => .ok (.srav (rsOf w) (rtOf w) (rdOf w) (saOf w))
  | 8#6 => .ok (.jr (rsOf w) (rtOf w) (rdOf w) (saOf w))
  | 9#6 => .ok (.jalr (rsOf w) (rtOf w) (rdOf w) (saOf w))
  | 12#6 => .ok (.syscall (codeOf w))
  | 13#6 => .ok (.brk (codeOf w))
  | 15#6 => .ok (.sync (codeOf w))
  | 16#6 => .ok (.mfhi (rsOf w) (rtOf w) (rdOf w) (saOf w))
  | 17#6 => .ok (.mthi (rsOf w) (rtOf w) (rdOf w) (saOf w))
  | 18#6 => .ok (.mflo (rsOf w) (rtOf w) (rdOf w) (saOf w))
  | 19#6 => .ok (.mtlo (rsOf w) (rtOf w) (rdOf w) (saOf w))
  | 20#6 => .ok (.dsllv (rsOf w) (rtOf w) (rdOf w) (saOf w))
  | 22#6 => .ok (.dsrlv (rsOf w) (rtOf w) (rdOf w) (saOf w))
  | 23#6 => .ok (.dsrav (rsOf w) (rtOf w) (rdOf w) (saOf w))
  | 24#6 => .ok (.mult (rsOf w) (rtOf w) (rdOf w) (saOf w))
  | 25#6 => .ok (.multu (rsOf w) (rtOf w) (rdOf w) (saOf w))
  | 26#6 => .ok (.div (rsOf w) (rtOf w) (rdOf w) (saOf w))
  | 27#6 => .ok (.divu (rsOf w) (rtOf w) (rdOf w) (saOf w))
  | 28#6 => .ok (.dmult (rsOf w) (rtOf w) (rdOf w) (saOf w))
  | 29#6 => .ok (.dmultu (rsOf w) (rtOf w) (rdOf w) (saOf w))
  | 30#6 => .ok (.ddiv (rsOf w) (rtOf w) (rdOf w) (saOf w))
  | 31#6 => .ok (.ddivu (rsOf w) (rtOf w) (rdOf w) (saOf w))
  | 32#6 => .ok (.add (rsOf w) (rtOf w) (rdOf w) (saOf w))
  | 33#6 => .ok (.addu (rsOf w) (rtOf w) (rdOf w) (saOf w))
  | 34#6 => .ok (.sub (rsOf w) (rtOf w) (rdOf w) (saOf w))
  | 35#6 => .ok (.subu (rsOf w) (rtOf w) (rdOf w) (saOf w))
  | 36#6 => .ok (.and (rsOf w) (rtOf w) (rdOf w) (saOf w))
  | 37#6 => .ok (.or (rsOf w) (rtOf w) (rdOf w) (saOf w))
  | 38#6 => .ok (.xor (rsOf w) (rtOf w) (rdOf w) (saOf w))
  | 39#6 => .ok (.nor (rsOf w) (rtOf w) (rdOf w) (saOf w))
  | 42#6 => .ok (.slt (rsOf w) (rtOf w) (rdOf w) (saOf w))
  | 43#6 => .ok (.sltu (rsOf w) (rtOf w) (rdOf w) (saOf w))
  | 44#6 => .ok (.dadd (rsOf w) (rtOf w) (rdOf w) (saOf w))
  | 45#6 => .ok (.daddu (rsOf w) (rtOf w) (rdOf w) (saOf w))
  | 46#6 => .ok (.dsub (rsOf w) (rtOf w) (rdOf w) (saOf w))
  | 47#6 => .ok (.dsubu (rsOf w) (rtOf w) (rdOf w) (saOf w))
  | 48#6 => .ok (.tge (rsOf w) (rtOf w) (rdOf w) (saOf w))
  | 49#6 => .ok (.tgeu (rsOf w) (rtOf w) (rdOf w) (saOf w))
  | 50#6 => .ok (.tlt (rsOf w) (rtOf w) (rdOf w) (saOf w))
  | 51#6 => .ok (.tltu (rsOf w) (rtOf w) (rdOf w) (saOf w))
  | 52#6 => .ok (.teq (rsOf w) (rtOf w) (rdOf w) (saOf w))
  | 54#6 => .ok (.tne (rsOf w) (rtOf w) (rdOf w) (saOf w))
  | 56#6 => .ok (.dsll (rsOf w) (rtOf w) (rdOf w) (saOf w))
  | 58#6 => .ok (.dsrl (rsOf w) (rtOf w) (rdOf w) (saOf w))
  | 59#6 => .ok (.dsra (rsOf w) (rtOf w) (rdOf w) (saOf w))
  | 60#6 => .ok (.dsll32 (rsOf w) (rtOf w) (rdOf w) (saOf w))
  | 62#6 => .ok (.dsrl32 (rsOf w) (rtOf w) (rdOf w) (saOf w))
  | 63#6 => .ok (.dsra32 (rsOf w) (rtOf w) (rdOf w) (saOf w))
  | _ => .error (.reservedSpecial funct)

/-- The REGIMM table, indexed by `rt` (30_encoding.md R69). -/
def decodeRegimm (rt : RegId) (w : Word) : Except DecodeError Instr :=
  match rt with
  | 0#5 => .ok (.bltz (rsOf w) (imm16Of w))
  | 1#5 => .ok (.bgez (rsOf w) (imm16Of w))
  | 2#5 => .ok (.bltzl (rsOf w) (imm16Of w))
  | 3#5 => .ok (.bgezl (rsOf w) (imm16Of w))
  | 8#5 => .ok (.tgei (rsOf w) (imm16Of w))
  | 9#5 => .ok (.tgeiu (rsOf w) (imm16Of w))
  | 10#5 => .ok (.tlti (rsOf w) (imm16Of w))
  | 11#5 => .ok (.tltiu (rsOf w) (imm16Of w))
  | 12#5 => .ok (.teqi (rsOf w) (imm16Of w))
  | 14#5 => .ok (.tnei (rsOf w) (imm16Of w))
  | 16#5 => .ok (.bltzal (rsOf w) (imm16Of w))
  | 17#5 => .ok (.bgezal (rsOf w) (imm16Of w))
  | 18#5 => .ok (.bltzall (rsOf w) (imm16Of w))
  | 19#5 => .ok (.bgezall (rsOf w) (imm16Of w))
  | _ => .error (.reservedRegimm rt)

/-- The slots `rs` = 16 to 31 of the coprocessor-0 table: all fault, and `funct` only names the word (30_encoding.md R70). -/
def decodeCo (funct : BitVec 6) (w : Word) : Except DecodeError Instr :=
  match funct with
  | 1#6 => .ok (.tlbr (coOf w))
  | 2#6 => .ok (.tlbwi (coOf w))
  | 6#6 => .ok (.tlbwr (coOf w))
  | 8#6 => .ok (.tlbp (coOf w))
  | 24#6 => .ok (.eret (coOf w))
  | _ => .error (.reservedCop0 (rsOf w) funct)

/-- The coprocessor-0 table, indexed by `rs` (30_encoding.md R70). -/
def decodeCop0 (rs : RegId) (w : Word) : Except DecodeError Instr :=
  if rs.getLsbD 4 then decodeCo (functOf w) w
  else
    match rs with
    | 0#5 => .ok (.mfc0 (rtOf w) (rdOf w) (low11Of w))
    | 1#5 => .ok (.dmfc0 (rtOf w) (rdOf w) (low11Of w))
    | 4#5 => .ok (.mtc0 (rtOf w) (rdOf w) (low11Of w))
    | 5#5 => .ok (.dmtc0 (rtOf w) (rdOf w) (low11Of w))
    | 8#5 => .ok (.bc0 (rtOf w) (imm16Of w))
    | _ => .error (.reservedCop0 rs (functOf w))

/-- The primary table, indexed by `opcode` and redirected by opcode 0, 1 and 16 (30_encoding.md R66, R67). -/
def decodePrimary (opcode : BitVec 6) (w : Word) : Except DecodeError Instr :=
  match opcode with
  | 0#6 => decodeSpecial (functOf w) w
  | 1#6 => decodeRegimm (rtOf w) w
  | 16#6 => decodeCop0 (rsOf w) w
  | 2#6 => .ok (.j (target26Of w))
  | 3#6 => .ok (.jal (target26Of w))
  | 4#6 => .ok (.beq (rsOf w) (rtOf w) (imm16Of w))
  | 5#6 => .ok (.bne (rsOf w) (rtOf w) (imm16Of w))
  | 6#6 => .ok (.blez (rsOf w) (rtOf w) (imm16Of w))
  | 7#6 => .ok (.bgtz (rsOf w) (rtOf w) (imm16Of w))
  | 8#6 => .ok (.addi (rsOf w) (rtOf w) (imm16Of w))
  | 9#6 => .ok (.addiu (rsOf w) (rtOf w) (imm16Of w))
  | 10#6 => .ok (.slti (rsOf w) (rtOf w) (imm16Of w))
  | 11#6 => .ok (.sltiu (rsOf w) (rtOf w) (imm16Of w))
  | 12#6 => .ok (.andi (rsOf w) (rtOf w) (imm16Of w))
  | 13#6 => .ok (.ori (rsOf w) (rtOf w) (imm16Of w))
  | 14#6 => .ok (.xori (rsOf w) (rtOf w) (imm16Of w))
  | 15#6 => .ok (.lui (rsOf w) (rtOf w) (imm16Of w))
  | 17#6 => .ok (.cop1 (target26Of w))
  | 18#6 => .ok (.cop2 (target26Of w))
  | 20#6 => .ok (.beql (rsOf w) (rtOf w) (imm16Of w))
  | 21#6 => .ok (.bnel (rsOf w) (rtOf w) (imm16Of w))
  | 22#6 => .ok (.blezl (rsOf w) (rtOf w) (imm16Of w))
  | 23#6 => .ok (.bgtzl (rsOf w) (rtOf w) (imm16Of w))
  | 24#6 => .ok (.daddi (rsOf w) (rtOf w) (imm16Of w))
  | 25#6 => .ok (.daddiu (rsOf w) (rtOf w) (imm16Of w))
  | 26#6 => .ok (.ldl (rsOf w) (rtOf w) (imm16Of w))
  | 27#6 => .ok (.ldr (rsOf w) (rtOf w) (imm16Of w))
  | 32#6 => .ok (.lb (rsOf w) (rtOf w) (imm16Of w))
  | 33#6 => .ok (.lh (rsOf w) (rtOf w) (imm16Of w))
  | 34#6 => .ok (.lwl (rsOf w) (rtOf w) (imm16Of w))
  | 35#6 => .ok (.lw (rsOf w) (rtOf w) (imm16Of w))
  | 36#6 => .ok (.lbu (rsOf w) (rtOf w) (imm16Of w))
  | 37#6 => .ok (.lhu (rsOf w) (rtOf w) (imm16Of w))
  | 38#6 => .ok (.lwr (rsOf w) (rtOf w) (imm16Of w))
  | 39#6 => .ok (.lwu (rsOf w) (rtOf w) (imm16Of w))
  | 40#6 => .ok (.sb (rsOf w) (rtOf w) (imm16Of w))
  | 41#6 => .ok (.sh (rsOf w) (rtOf w) (imm16Of w))
  | 42#6 => .ok (.swl (rsOf w) (rtOf w) (imm16Of w))
  | 43#6 => .ok (.sw (rsOf w) (rtOf w) (imm16Of w))
  | 44#6 => .ok (.sdl (rsOf w) (rtOf w) (imm16Of w))
  | 45#6 => .ok (.sdr (rsOf w) (rtOf w) (imm16Of w))
  | 46#6 => .ok (.swr (rsOf w) (rtOf w) (imm16Of w))
  | 47#6 => .ok (.cache (rsOf w) (rtOf w) (imm16Of w))
  | 48#6 => .ok (.ll (rsOf w) (rtOf w) (imm16Of w))
  | 49#6 => .ok (.lwc1 (rsOf w) (rtOf w) (imm16Of w))
  | 50#6 => .ok (.lwc2 (rsOf w) (rtOf w) (imm16Of w))
  | 52#6 => .ok (.lld (rsOf w) (rtOf w) (imm16Of w))
  | 53#6 => .ok (.ldc1 (rsOf w) (rtOf w) (imm16Of w))
  | 54#6 => .ok (.ldc2 (rsOf w) (rtOf w) (imm16Of w))
  | 55#6 => .ok (.ld (rsOf w) (rtOf w) (imm16Of w))
  | 56#6 => .ok (.sc (rsOf w) (rtOf w) (imm16Of w))
  | 57#6 => .ok (.swc1 (rsOf w) (rtOf w) (imm16Of w))
  | 58#6 => .ok (.swc2 (rsOf w) (rtOf w) (imm16Of w))
  | 60#6 => .ok (.scd (rsOf w) (rtOf w) (imm16Of w))
  | 61#6 => .ok (.sdc1 (rsOf w) (rtOf w) (imm16Of w))
  | 62#6 => .ok (.sdc2 (rsOf w) (rtOf w) (imm16Of w))
  | 63#6 => .ok (.sd (rsOf w) (rtOf w) (imm16Of w))
  | _ => .error (.reservedPrimary opcode)

/-- `Dispatch(w)` (30_encoding.md R66). Total on all words; a RESERVED word is rejected by name. -/
def decode (w : Word) : Except DecodeError Instr := decodePrimary (opcodeOf w) w

/-- A word from its four bytes, the byte at the lowest address in bits 31:24 (20_memory.md R42). -/
def wordOfBytes (b0 b1 b2 b3 : Byte) : Word := b0 ++ b1 ++ b2 ++ b3

/-- The byte of a word at offset `k` (0 to 3) from its address: bits 31:24 lie lowest (20_memory.md R42, R46). -/
def byteOfWord (w : Word) (k : Nat) : Byte := w.extractLsb' (24 - 8 * k) 8

/-- Decode the instruction at the front of a run of bytes, and give the rest back. Total on any bytes. -/
def decodeBytes : List Byte → Except DecodeError (Instr × List Byte)
  | b0 :: b1 :: b2 :: b3 :: rest =>
    match decode (wordOfBytes b0 b1 b2 b3) with
    | .ok i => .ok (i, rest)
    | .error e => .error e
  | short => .error (.truncated short.length)

/-- Format R with the function code (30_encoding.md R62). -/
def encodeR (funct : BitVec 6) (rs rt rd : RegId) (sa : BitVec 5) : Word := 0#6 ++ rs ++ rt ++ rd ++ sa ++ funct
/-- Format I with the primary opcode (R62). -/
def encodeI (opcode : BitVec 6) (rs rt : RegId) (imm16 : BitVec 16) : Word := opcode ++ rs ++ rt ++ imm16
/-- Format J, and the coprocessor words of which only the opcode is looked at (R62). -/
def encodeJ (opcode : BitVec 6) (target26 : BitVec 26) : Word := opcode ++ target26
/-- A SPECIAL word whose bits 25:6 are one code field (45_cop0_system.md R232). -/
def encodeCode (funct : BitVec 6) (code : BitVec 20) : Word := 0#6 ++ code ++ funct
/-- Format C0 with the sub-opcode in the `rs` position (R62). -/
def encodeC0 (rs rt rd : RegId) (low11 : BitVec 11) : Word := 16#6 ++ rs ++ rt ++ rd ++ low11
/-- A named word of the CO group: opcode 16, bit 25 set, and `funct` (R70). -/
def encodeCo (funct : BitVec 6) (co : BitVec 19) : Word := 16#6 ++ 1#1 ++ co ++ funct

/-- The word of an instruction, from the tables R67 to R70. -/
def encode : Instr → Word
  | .j target26 => encodeJ 2 target26
  | .jal target26 => encodeJ 3 target26
  | .beq rs rt imm16 => encodeI 4 rs rt imm16
  | .bne rs rt imm16 => encodeI 5 rs rt imm16
  | .blez rs rt imm16 => encodeI 6 rs rt imm16
  | .bgtz rs rt imm16 => encodeI 7 rs rt imm16
  | .addi rs rt imm16 => encodeI 8 rs rt imm16
  | .addiu rs rt imm16 => encodeI 9 rs rt imm16
  | .slti rs rt imm16 => encodeI 10 rs rt imm16
  | .sltiu rs rt imm16 => encodeI 11 rs rt imm16
  | .andi rs rt imm16 => encodeI 12 rs rt imm16
  | .ori rs rt imm16 => encodeI 13 rs rt imm16
  | .xori rs rt imm16 => encodeI 14 rs rt imm16
  | .lui rs rt imm16 => encodeI 15 rs rt imm16
  | .cop1 body => encodeJ 17 body
  | .cop2 body => encodeJ 18 body
  | .beql rs rt imm16 => encodeI 20 rs rt imm16
  | .bnel rs rt imm16 => encodeI 21 rs rt imm16
  | .blezl rs rt imm16 => encodeI 22 rs rt imm16
  | .bgtzl rs rt imm16 => encodeI 23 rs rt imm16
  | .daddi rs rt imm16 => encodeI 24 rs rt imm16
  | .daddiu rs rt imm16 => encodeI 25 rs rt imm16
  | .ldl rs rt imm16 => encodeI 26 rs rt imm16
  | .ldr rs rt imm16 => encodeI 27 rs rt imm16
  | .lb rs rt imm16 => encodeI 32 rs rt imm16
  | .lh rs rt imm16 => encodeI 33 rs rt imm16
  | .lwl rs rt imm16 => encodeI 34 rs rt imm16
  | .lw rs rt imm16 => encodeI 35 rs rt imm16
  | .lbu rs rt imm16 => encodeI 36 rs rt imm16
  | .lhu rs rt imm16 => encodeI 37 rs rt imm16
  | .lwr rs rt imm16 => encodeI 38 rs rt imm16
  | .lwu rs rt imm16 => encodeI 39 rs rt imm16
  | .sb rs rt imm16 => encodeI 40 rs rt imm16
  | .sh rs rt imm16 => encodeI 41 rs rt imm16
  | .swl rs rt imm16 => encodeI 42 rs rt imm16
  | .sw rs rt imm16 => encodeI 43 rs rt imm16
  | .sdl rs rt imm16 => encodeI 44 rs rt imm16
  | .sdr rs rt imm16 => encodeI 45 rs rt imm16
  | .swr rs rt imm16 => encodeI 46 rs rt imm16
  | .cache rs rt imm16 => encodeI 47 rs rt imm16
  | .ll rs rt imm16 => encodeI 48 rs rt imm16
  | .lwc1 rs rt imm16 => encodeI 49 rs rt imm16
  | .lwc2 rs rt imm16 => encodeI 50 rs rt imm16
  | .lld rs rt imm16 => encodeI 52 rs rt imm16
  | .ldc1 rs rt imm16 => encodeI 53 rs rt imm16
  | .ldc2 rs rt imm16 => encodeI 54 rs rt imm16
  | .ld rs rt imm16 => encodeI 55 rs rt imm16
  | .sc rs rt imm16 => encodeI 56 rs rt imm16
  | .swc1 rs rt imm16 => encodeI 57 rs rt imm16
  | .swc2 rs rt imm16 => encodeI 58 rs rt imm16
  | .scd rs rt imm16 => encodeI 60 rs rt imm16
  | .sdc1 rs rt imm16 => encodeI 61 rs rt imm16
  | .sdc2 rs rt imm16 => encodeI 62 rs rt imm16
  | .sd rs rt imm16 => encodeI 63 rs rt imm16
  | .sll rs rt rd sa => encodeR 0 rs rt rd sa
  | .srl rs rt rd sa => encodeR 2 rs rt rd sa
  | .sra rs rt rd sa => encodeR 3 rs rt rd sa
  | .sllv rs rt rd sa => encodeR 4 rs rt rd sa
  | .srlv rs rt rd sa => encodeR 6 rs rt rd sa
  | .srav rs rt rd sa => encodeR 7 rs rt rd sa
  | .jr rs rt rd sa => encodeR 8 rs rt rd sa
  | .jalr rs rt rd sa => encodeR 9 rs rt rd sa
  | .syscall code => encodeCode 12 code
  | .brk code => encodeCode 13 code
  | .sync code => encodeCode 15 code
  | .mfhi rs rt rd sa => encodeR 16 rs rt rd sa
  | .mthi rs rt rd sa => encodeR 17 rs rt rd sa
  | .mflo rs rt rd sa => encodeR 18 rs rt rd sa
  | .mtlo rs rt rd sa => encodeR 19 rs rt rd sa
  | .dsllv rs rt rd sa => encodeR 20 rs rt rd sa
  | .dsrlv rs rt rd sa => encodeR 22 rs rt rd sa
  | .dsrav rs rt rd sa => encodeR 23 rs rt rd sa
  | .mult rs rt rd sa => encodeR 24 rs rt rd sa
  | .multu rs rt rd sa => encodeR 25 rs rt rd sa
  | .div rs rt rd sa => encodeR 26 rs rt rd sa
  | .divu rs rt rd sa => encodeR 27 rs rt rd sa
  | .dmult rs rt rd sa => encodeR 28 rs rt rd sa
  | .dmultu rs rt rd sa => encodeR 29 rs rt rd sa
  | .ddiv rs rt rd sa => encodeR 30 rs rt rd sa
  | .ddivu rs rt rd sa => encodeR 31 rs rt rd sa
  | .add rs rt rd sa => encodeR 32 rs rt rd sa
  | .addu rs rt rd sa => encodeR 33 rs rt rd sa
  | .sub rs rt rd sa => encodeR 34 rs rt rd sa
  | .subu rs rt rd sa => encodeR 35 rs rt rd sa
  | .and rs rt rd sa => encodeR 36 rs rt rd sa
  | .or rs rt rd sa => encodeR 37 rs rt rd sa
  | .xor rs rt rd sa => encodeR 38 rs rt rd sa
  | .nor rs rt rd sa => encodeR 39 rs rt rd sa
  | .slt rs rt rd sa => encodeR 42 rs rt rd sa
  | .sltu rs rt rd sa => encodeR 43 rs rt rd sa
  | .dadd rs rt rd sa => encodeR 44 rs rt rd sa
  | .daddu rs rt rd sa => encodeR 45 rs rt rd sa
  | .dsub rs rt rd sa => encodeR 46 rs rt rd sa
  | .dsubu rs rt rd sa => encodeR 47 rs rt rd sa
  | .tge rs rt rd sa => encodeR 48 rs rt rd sa
  | .tgeu rs rt rd sa => encodeR 49 rs rt rd sa
  | .tlt rs rt rd sa => encodeR 50 rs rt rd sa
  | .tltu rs rt rd sa => encodeR 51 rs rt rd sa
  | .teq rs rt rd sa => encodeR 52 rs rt rd sa
  | .tne rs rt rd sa => encodeR 54 rs rt rd sa
  | .dsll rs rt rd sa => encodeR 56 rs rt rd sa
  | .dsrl rs rt rd sa => encodeR 58 rs rt rd sa
  | .dsra rs rt rd sa => encodeR 59 rs rt rd sa
  | .dsll32 rs rt rd sa => encodeR 60 rs rt rd sa
  | .dsrl32 rs rt rd sa => encodeR 62 rs rt rd sa
  | .dsra32 rs rt rd sa => encodeR 63 rs rt rd sa
  | .bltz rs imm16 => encodeI 1 rs 0 imm16
  | .bgez rs imm16 => encodeI 1 rs 1 imm16
  | .bltzl rs imm16 => encodeI 1 rs 2 imm16
  | .bgezl rs imm16 => encodeI 1 rs 3 imm16
  | .tgei rs imm16 => encodeI 1 rs 8 imm16
  | .tgeiu rs imm16 => encodeI 1 rs 9 imm16
  | .tlti rs imm16 => encodeI 1 rs 10 imm16
  | .tltiu rs imm16 => encodeI 1 rs 11 imm16
  | .teqi rs imm16 => encodeI 1 rs 12 imm16
  | .tnei rs imm16 => encodeI 1 rs 14 imm16
  | .bltzal rs imm16 => encodeI 1 rs 16 imm16
  | .bgezal rs imm16 => encodeI 1 rs 17 imm16
  | .bltzall rs imm16 => encodeI 1 rs 18 imm16
  | .bgezall rs imm16 => encodeI 1 rs 19 imm16
  | .mfc0 rt rd low11 => encodeC0 0 rt rd low11
  | .dmfc0 rt rd low11 => encodeC0 1 rt rd low11
  | .mtc0 rt rd low11 => encodeC0 4 rt rd low11
  | .dmtc0 rt rd low11 => encodeC0 5 rt rd low11
  | .bc0 rt imm16 => encodeI 16 8 rt imm16
  | .tlbr co => encodeCo 1 co
  | .tlbwi co => encodeCo 2 co
  | .tlbwr co => encodeCo 6 co
  | .tlbp co => encodeCo 8 co
  | .eret co => encodeCo 24 co

/-- The four bytes of an instruction, lowest address first. -/
def encodeBytes (i : Instr) : List Byte := (List.range 4).map (byteOfWord (encode i))

/-- What the decoder reads from the instruction whose bits are `w`, numbered as the opcode table numbers them: the bits from
`nbits` on are zero, the word is laid out big-endian, and the bytes go to `decodeBytes`. -/
def decodeTableWord (nbits w : Nat) : Option Instr :=
  match decodeBytes ((List.range 4).map (byteOfWord (BitVec.ofNat 32 (w % 2 ^ nbits)))) with
  | .ok (i, _) => some i
  | .error _ => none

/-- The mnemonic of an instruction, letter for letter as spec/opcode_table.json has it. -/
def Instr.mnemonic : Instr → String
  | .j .. => "J"
  | .jal .. => "JAL"
  | .beq .. => "BEQ"
  | .bne .. => "BNE"
  | .blez .. => "BLEZ"
  | .bgtz .. => "BGTZ"
  | .addi .. => "ADDI"
  | .addiu .. => "ADDIU"
  | .slti .. => "SLTI"
  | .sltiu .. => "SLTIU"
  | .andi .. => "ANDI"
  | .ori .. => "ORI"
  | .xori .. => "XORI"
  | .lui .. => "LUI"
  | .cop1 .. => "COP1"
  | .cop2 .. => "COP2"
  | .beql .. => "BEQL"
  | .bnel .. => "BNEL"
  | .blezl .. => "BLEZL"
  | .bgtzl .. => "BGTZL"
  | .daddi .. => "DADDI"
  | .daddiu .. => "DADDIU"
  | .ldl .. => "LDL"
  | .ldr .. => "LDR"
  | .lb .. => "LB"
  | .lh .. => "LH"
  | .lwl .. => "LWL"
  | .lw .. => "LW"
  | .lbu .. => "LBU"
  | .lhu .. => "LHU"
  | .lwr .. => "LWR"
  | .lwu .. => "LWU"
  | .sb .. => "SB"
  | .sh .. => "SH"
  | .swl .. => "SWL"
  | .sw .. => "SW"
  | .sdl .. => "SDL"
  | .sdr .. => "SDR"
  | .swr .. => "SWR"
  | .cache .. => "CACHE"
  | .ll .. => "LL"
  | .lwc1 .. => "LWC1"
  | .lwc2 .. => "LWC2"
  | .lld .. => "LLD"
  | .ldc1 .. => "LDC1"
  | .ldc2 .. => "LDC2"
  | .ld .. => "LD"
  | .sc .. => "SC"
  | .swc1 .. => "SWC1"
  | .swc2 .. => "SWC2"
  | .scd .. => "SCD"
  | .sdc1 .. => "SDC1"
  | .sdc2 .. => "SDC2"
  | .sd .. => "SD"
  | .sll .. => "SLL"
  | .srl .. => "SRL"
  | .sra .. => "SRA"
  | .sllv .. => "SLLV"
  | .srlv .. => "SRLV"
  | .srav .. => "SRAV"
  | .jr .. => "JR"
  | .jalr .. => "JALR"
  | .syscall .. => "SYSCALL"
  | .brk .. => "BREAK"
  | .sync .. => "SYNC"
  | .mfhi .. => "MFHI"
  | .mthi .. => "MTHI"
  | .mflo .. => "MFLO"
  | .mtlo .. => "MTLO"
  | .dsllv .. => "DSLLV"
  | .dsrlv .. => "DSRLV"
  | .dsrav .. => "DSRAV"
  | .mult .. => "MULT"
  | .multu .. => "MULTU"
  | .div .. => "DIV"
  | .divu .. => "DIVU"
  | .dmult .. => "DMULT"
  | .dmultu .. => "DMULTU"
  | .ddiv .. => "DDIV"
  | .ddivu .. => "DDIVU"
  | .add .. => "ADD"
  | .addu .. => "ADDU"
  | .sub .. => "SUB"
  | .subu .. => "SUBU"
  | .and .. => "AND"
  | .or .. => "OR"
  | .xor .. => "XOR"
  | .nor .. => "NOR"
  | .slt .. => "SLT"
  | .sltu .. => "SLTU"
  | .dadd .. => "DADD"
  | .daddu .. => "DADDU"
  | .dsub .. => "DSUB"
  | .dsubu .. => "DSUBU"
  | .tge .. => "TGE"
  | .tgeu .. => "TGEU"
  | .tlt .. => "TLT"
  | .tltu .. => "TLTU"
  | .teq .. => "TEQ"
  | .tne .. => "TNE"
  | .dsll .. => "DSLL"
  | .dsrl .. => "DSRL"
  | .dsra .. => "DSRA"
  | .dsll32 .. => "DSLL32"
  | .dsrl32 .. => "DSRL32"
  | .dsra32 .. => "DSRA32"
  | .bltz .. => "BLTZ"
  | .bgez .. => "BGEZ"
  | .bltzl .. => "BLTZL"
  | .bgezl .. => "BGEZL"
  | .tgei .. => "TGEI"
  | .tgeiu .. => "TGEIU"
  | .tlti .. => "TLTI"
  | .tltiu .. => "TLTIU"
  | .teqi .. => "TEQI"
  | .tnei .. => "TNEI"
  | .bltzal .. => "BLTZAL"
  | .bgezal .. => "BGEZAL"
  | .bltzall .. => "BLTZALL"
  | .bgezall .. => "BGEZALL"
  | .mfc0 .. => "MFC0"
  | .dmfc0 .. => "DMFC0"
  | .mtc0 .. => "MTC0"
  | .dmtc0 .. => "DMTC0"
  | .bc0 .. => "BC0"
  | .tlbr .. => "TLBR"
  | .tlbwi .. => "TLBWI"
  | .tlbwr .. => "TLBWR"
  | .tlbp .. => "TLBP"
  | .eret .. => "ERET"

/-- One row of spec/opcode_table.json: a word `w` selects it when `w AND mask = pattern` (30_encoding.md R79). -/
structure TableRow where
  mnemonic : String
  mask : Word
  pattern : Word
  deriving DecidableEq, Repr

/-- The row's test on a word (30_encoding.md R79). -/
def TableRow.selects (r : TableRow) (w : Word) : Bool := w &&& r.mask == r.pattern

/-- Rows of the primary table (30_encoding.md R67), by opcode: mnemonic and `match` as spec/opcode_table.json writes them; all have the mask `0xFC000000`. -/
def primaryRows : List TableRow :=
  let row (m : String) (p : Word) : TableRow := ⟨m, 0xFC000000, p⟩
  [row "J" 0x08000000, row "JAL" 0x0C000000, row "BEQ" 0x10000000, row "BNE" 0x14000000,
   row "BLEZ" 0x18000000, row "BGTZ" 0x1C000000, row "ADDI" 0x20000000, row "ADDIU" 0x24000000,
   row "SLTI" 0x28000000, row "SLTIU" 0x2C000000, row "ANDI" 0x30000000, row "ORI" 0x34000000,
   row "XORI" 0x38000000, row "LUI" 0x3C000000, row "COP1" 0x44000000, row "COP2" 0x48000000,
   row "BEQL" 0x50000000, row "BNEL" 0x54000000, row "BLEZL" 0x58000000, row "BGTZL" 0x5C000000] ++
  [row "DADDI" 0x60000000, row "DADDIU" 0x64000000, row "LDL" 0x68000000, row "LDR" 0x6C000000,
   row "LB" 0x80000000, row "LH" 0x84000000, row "LWL" 0x88000000, row "LW" 0x8C000000,
   row "LBU" 0x90000000, row "LHU" 0x94000000, row "LWR" 0x98000000, row "LWU" 0x9C000000,
   row "SB" 0xA0000000, row "SH" 0xA4000000, row "SWL" 0xA8000000, row "SW" 0xAC000000,
   row "SDL" 0xB0000000, row "SDR" 0xB4000000, row "SWR" 0xB8000000, row "CACHE" 0xBC000000] ++
  [row "LL" 0xC0000000, row "LWC1" 0xC4000000, row "LWC2" 0xC8000000, row "LLD" 0xD0000000,
   row "LDC1" 0xD4000000, row "LDC2" 0xD8000000, row "LD" 0xDC000000, row "SC" 0xE0000000,
   row "SWC1" 0xE4000000, row "SWC2" 0xE8000000, row "SCD" 0xF0000000, row "SDC1" 0xF4000000,
   row "SDC2" 0xF8000000, row "SD" 0xFC000000]

/-- Rows of the SPECIAL table (R68), by funct: mnemonic and `match` as spec/opcode_table.json writes them; all have the mask `0xFC00003F`. -/
def specialRows : List TableRow :=
  let row (m : String) (p : Word) : TableRow := ⟨m, 0xFC00003F, p⟩
  [row "SLL" 0x00000000, row "SRL" 0x00000002, row "SRA" 0x00000003, row "SLLV" 0x00000004,
   row "SRLV" 0x00000006, row "SRAV" 0x00000007, row "JR" 0x00000008, row "JALR" 0x00000009,
   row "SYSCALL" 0x0000000C, row "BREAK" 0x0000000D, row "SYNC" 0x0000000F, row "MFHI" 0x00000010,
   row "MTHI" 0x00000011, row "MFLO" 0x00000012, row "MTLO" 0x00000013, row "DSLLV" 0x00000014,
   row "DSRLV" 0x00000016, row "DSRAV" 0x00000017, row "MULT" 0x00000018, row "MULTU" 0x00000019] ++
  [row "DIV" 0x0000001A, row "DIVU" 0x0000001B, row "DMULT" 0x0000001C, row "DMULTU" 0x0000001D,
   row "DDIV" 0x0000001E, row "DDIVU" 0x0000001F, row "ADD" 0x00000020, row "ADDU" 0x00000021,
   row "SUB" 0x00000022, row "SUBU" 0x00000023, row "AND" 0x00000024, row "OR" 0x00000025,
   row "XOR" 0x00000026, row "NOR" 0x00000027, row "SLT" 0x0000002A, row "SLTU" 0x0000002B,
   row "DADD" 0x0000002C, row "DADDU" 0x0000002D, row "DSUB" 0x0000002E, row "DSUBU" 0x0000002F] ++
  [row "TGE" 0x00000030, row "TGEU" 0x00000031, row "TLT" 0x00000032, row "TLTU" 0x00000033,
   row "TEQ" 0x00000034, row "TNE" 0x00000036, row "DSLL" 0x00000038, row "DSRL" 0x0000003A,
   row "DSRA" 0x0000003B, row "DSLL32" 0x0000003C, row "DSRL32" 0x0000003E, row "DSRA32" 0x0000003F]

/-- Rows of the REGIMM table (R69), by the rt field: mnemonic and `match` as spec/opcode_table.json writes them; all have the mask `0xFC1F0000`. -/
def regimmRows : List TableRow :=
  let row (m : String) (p : Word) : TableRow := ⟨m, 0xFC1F0000, p⟩
  [row "BLTZ" 0x04000000, row "BGEZ" 0x04010000, row "BLTZL" 0x04020000, row "BGEZL" 0x04030000,
   row "TGEI" 0x04080000, row "TGEIU" 0x04090000, row "TLTI" 0x040A0000, row "TLTIU" 0x040B0000,
   row "TEQI" 0x040C0000, row "TNEI" 0x040E0000, row "BLTZAL" 0x04100000, row "BGEZAL" 0x04110000,
   row "BLTZALL" 0x04120000, row "BGEZALL" 0x04130000]

/-- Rows of the coprocessor-0 table (R70), by the rs field: mnemonic and `match` as spec/opcode_table.json writes them; all have the mask `0xFFE00000`. -/
def cop0Rows : List TableRow :=
  let row (m : String) (p : Word) : TableRow := ⟨m, 0xFFE00000, p⟩
  [row "MFC0" 0x40000000, row "DMFC0" 0x40200000, row "MTC0" 0x40800000, row "DMTC0" 0x40A00000,
   row "BC0" 0x41000000]

/-- The named words of the CO group, rs at least 16 (R70), by funct: mnemonic and `match` as spec/opcode_table.json writes them; all have the mask `0xFE00003F`. -/
def coRows : List TableRow :=
  let row (m : String) (p : Word) : TableRow := ⟨m, 0xFE00003F, p⟩
  [row "TLBR" 0x42000001, row "TLBWI" 0x42000002, row "TLBWR" 0x42000006, row "TLBP" 0x42000008,
   row "ERET" 0x42000018]

/-- The 130 rows of spec/opcode_table.json (30_encoding.md R79). -/
def opcodeTable : List TableRow := primaryRows ++ specialRows ++ regimmRows ++ cop0Rows ++ coRows

end Sys2Proof
end

