-- ==== Sys2Proof/Config.lean ====
section
/-! DEFINITION. Config: what 00_scope.md R3 leaves to the instance of the hardware, as plain data.

The parameters stand in the machine's State as one field that no step changes, so that a statement about every state is a
statement about every value of every parameter (R3; log 10). The spec leaves no result of an instruction that goes on undefined
(93_implementation_defined.md Part 1), so there is no free value here. -/

namespace Sys2Proof

/-- `MISALIGNED_WORD`: what the collaborator does on a word access whose address is not a multiple of 4 (00_scope.md R3,
20_memory.md R43, decision D20). -/
inductive MisalignedWord where
  | fault
  | compose
  deriving DecidableEq, Repr

/-- The 32-bit addresses from `first` to `last`, both included. -/
structure AddrRange where
  first : Word
  last : Word
  deriving DecidableEq, Repr

/-- The named parameters of 00_scope.md R3, but for `Mem`, which is `State.mem`, `State.answers` and `State.settled` (log 3). DESIGN CHOICE (log 2),
safe: a predicate on 32-bit addresses is a list of ranges, which can list every such predicate, so that it is data. -/
structure Params where
  /-- `MISALIGNED_WORD`. -/
  misaligned : MisalignedWord
  /-- `INVALID_TARGET`: the branch targets that count as negative (40_step_and_dispatch.md R95). -/
  invalidTargets : List AddrRange
  /-- `COP0_WRITABLE`: the control registers `MTC0` may write (45_cop0_system.md R222). -/
  cop0Writable : List RegId
  deriving DecidableEq, Repr

/-- The defaults of 00_scope.md R3: `MISALIGNED_WORD` = fault, no invalid target, no writable control register. -/
def Params.default : Params :=
  { misaligned := .fault, invalidTargets := [], cop0Writable := [] }

end Sys2Proof
end

