-- ==== Sys2Proof/Machine/State.lean ====
section
/-! DEFINITION. State: the whole state of the core (10_state.md R10), the collaborator's bytes and the parameters, and a record
of what the core has sent out (diagnostics, port calls, refresh pulses) that no meaning reads. -/

namespace Sys2Proof.Machine

/-- The three run-time kinds of fault (60_exceptions.md R280 to R283). -/
inductive FaultKind where
  /-- An encoding with no real handler, or `MTC0` to a register that may not be written (R281). -/
  | unimplementedOperation
  /-- `ScheduleBranch` met a target that `INVALID_TARGET` holds of (R282). -/
  | invalidBranchTarget (target : Word)
  /-- The collaborator answered a call at `addr` with a fault (R283). -/
  | memoryFault (addr : Word)
  deriving DecidableEq, Repr

/-- One diagnostic (60_exceptions.md R284): the kind, the address `p` of the faulting instruction, and its raw word, which is
absent when the fetch itself faulted (R283). The optional disassembly text is left out (log 6). -/
structure Diagnostic where
  kind : FaultKind
  address : Word
  word : Option Word
  deriving DecidableEq, Repr

/-- One call of the core on the memory port (20_memory.md R40, R41). -/
inductive PortCall where
  | readByte (addr : Word)
  | readWord (addr : Word)
  | writeByte (addr : Word) (v : Byte)
  | writeWord (addr : Word) (v : Word)
  deriving DecidableEq, Repr

/-- What the memory collaborator answers to one call (20_memory.md R40, R41). -/
inductive PortAnswer where
  /-- The call is done: a byte read returns the low byte, a word read the word, and a write is accepted. -/
  | value (v : Word)
  /-- The call is answered by a fault. -/
  | fault
  deriving DecidableEq, Repr

/-- What the core has sent out through its interfaces (00_scope.md R4 (a), (c), (d)). The model's own record: the spec calls
these output events and not state (10_state.md R24), and no meaning reads them. DESIGN CHOICE (log 4), safe. -/
structure Outputs where
  /-- The diagnostics emitted, newest first. -/
  diagnostics : List Diagnostic
  /-- The calls made on the memory port, newest first. -/
  portCalls : List PortCall
  /-- The number of display-refresh pulses (40_step_and_dispatch.md R105). -/
  refreshPulses : Nat
  deriving DecidableEq, Repr

/-- The bytes behind the memory port, in one canonical form (`Memory.wf`): addresses strictly rising and below 2^32, no entry
equal to what an unlisted address reads as. -/
abbrev Memory := List Host.Cell

/-- The state of the machine. -/
structure State where
  /-- `x[0..31]`, the general registers; GPR 0 is an ordinary one (10_state.md R11, R12). -/
  x : Vector DWord 32
  /-- `c0[0..31]`, the control registers, plain storage (R16). -/
  c0 : Vector Word 32
  /-- `HI` (R15). -/
  hi : DWord
  /-- `LO` (R15). -/
  lo : DWord
  /-- `pc`, the address of the next instruction (R18). -/
  pc : Word
  /-- `delayPC`, the pending branch target, 0 when none is pending (R19). -/
  delayPC : Word
  /-- `halt`, the execution-stop flag (R21). -/
  halt : Bool
  /-- `opsExecuted`, the number of retired instructions (R22). -/
  opsExecuted : Nat
  /-- The collaborator's bytes (20_memory.md R46). -/
  mem : Memory
  /-- What a collaborator other than `FlatMem` answers to the next calls, in their order: "an oracle that may return any byte or
  word, or a fault, on every call, constrained only by rule R56" (20_memory.md R46); the constraint is `settled`. Where nothing is
  listed, `FlatMem` answers from `mem`. The model's own form of the parameter `Mem`. DESIGN CHOICE (log 3), safe. -/
  answers : List PortAnswer
  /-- The addresses whose last write was an accepted `writeByte`: `readByte` there is bound to return the byte written, which is
  the byte of `mem` (20_memory.md R56). A set: no repeats (`called_settled_nodup`). The model's own field,
  DESIGN CHOICE (log 3); what releases a byte is log 11, log 12 and log 13. -/
  settled : List Word
  /-- The parameters (00_scope.md R3); no step changes them. -/
  params : Params
  /-- The record of outputs; no meaning reads it. -/
  out : Outputs
  deriving DecidableEq, Repr

/-- The reasons a step can end in the host interface's own outcome `fault`: none. Every fault the spec describes has its effect
described whole (60_exceptions.md R284), so a step that faults answers a next state with `halt` set and a diagnostic in
`out.diagnostics`. Nobody raises a `Fault`, which is safe (log 5). -/
inductive Fault where
  deriving DecidableEq, Repr

/-- Why a step has no meaning. Each is a situation that the spec tells a model to refuse. -/
inductive Refusal where
  /-- Raised by exec for an instruction that has no meaning yet (no arm of this model). Safe: nothing is claimed of it. -/
  | notModelled (mnemonic : String)
  /-- Raised by a jump, a taken branch or a likely branch not taken when a branch is pending: "This spec gives the situation no
  meaning: a model refuses it" (40_step_and_dispatch.md R98). Safe: nothing is claimed of it. -/
  | controlTransferInDelaySlot
  /-- Raised by `BLTZAL` and `BGEZAL` with `rs` = 31: "that case is unspecified and a model refuses it" (43_branch_jump.md R152).
  Safe: nothing is claimed of it. -/
  | linkRegisterTested
  deriving DecidableEq, Repr

/-- What a step or a meaning answers. -/
abbrev Outcome := Host.Outcome State Fault Refusal

/-- The state at creation, which is the state after `reset()` with `halt` = 0 (10_state.md R25). Nothing is listed in memory:
what an unlisted byte reads as is the model's choice (log 1). The parameters have the defaults of 00_scope.md R3, and nothing
has been sent out (log 4); `FlatMem` answers and no byte is bound (log 3). -/
def State.reset : State :=
  { x := Vector.replicate 32 0
    c0 := Vector.replicate 32 0
    hi := 0
    lo := 0
    pc := 0
    delayPC := 0
    halt := false
    opsExecuted := 0
    mem := []
    answers := []
    settled := []
    params := Params.default
    out := { diagnostics := [], portCalls := [], refreshPulses := 0 } }

end Sys2Proof.Machine
end

