-- ==== Sys2Proof/Machine/Operands.lean ====
section
/-! DEFINITION. Operands: the operand forms and derived addresses of the spec, as functions of values.

00_scope.md R5, R6 (halves and extensions), 30_encoding.md R63 to R65 (immediates, branch and jump targets), 44_load_store.md
R180 (effective address), 43_branch_jump.md R152 (link value). -/

namespace Sys2Proof.Machine

/-- `lo32(v)`, bits 31:0 (00_scope.md R5). -/
def lo32 (v : DWord) : Word := v.extractLsb' 0 32

/-- `sext_64` of a 32-bit value (00_scope.md R6). -/
def sext64 (v : Word) : DWord := v.signExtend 64

/-- `zext_64` of a byte (00_scope.md R6). -/
def zext64OfByte (v : Byte) : DWord := v.setWidth 64

/-- `sext_32(imm16)` (30_encoding.md R63). -/
def immSext32 (imm16 : BitVec 16) : Word := imm16.signExtend 32

/-- `sext_64(imm16)` (30_encoding.md R63). -/
def immSext64 (imm16 : BitVec 16) : DWord := imm16.signExtend 64

/-- `zext_64(imm16)` (30_encoding.md R63). -/
def immZext64 (imm16 : BitVec 16) : DWord := imm16.setWidth 64

/-- The amount of a variable shift, `lo32(v)[4:0]` (41_alu.md R137). -/
def shiftAmount (v : DWord) : BitVec 5 := (lo32 v).extractLsb' 0 5

/-- `EA(w) = (lo32(x[rs]) + sext_32(imm16)) mod 2^32`, of the base register's value (44_load_store.md R180). -/
def effectiveAddress (base : DWord) (imm16 : BitVec 16) : Word := lo32 base + immSext32 imm16

/-- `BranchTarget(p, imm16) = (p + 4 + (sext_32(imm16) << 2)) mod 2^32` (30_encoding.md R64). -/
def branchTarget (p : Word) (imm16 : BitVec 16) : Word := p + (4 : Word) + (immSext32 imm16 <<< (2 : Nat))

/-- `JumpTarget(p, target26) = (p AND 0xF0000000) OR (target26 << 2)`, the region bits of the jump's own address
(30_encoding.md R65). -/
def jumpTarget (p : Word) (target26 : BitVec 26) : Word := (p &&& (0xF0000000 : Word)) ||| (target26.setWidth 32 <<< (2 : Nat))

/-- The link value of an instruction at `p`: `sext_64((p + 8) mod 2^32)` (43_branch_jump.md R152). -/
def linkValue (p : Word) : DWord := sext64 (p + 8)

end Sys2Proof.Machine
end

