-- ==== Sys2Proof/Machine/Flags.lean ====
section
/-! DEFINITION. Flags: the hardware has none (10_state.md R23): no condition code, carry, overflow or status flag. What stands in
their place is here: the 0 or 1 that a comparison writes into a general register, and the conditions branches test. -/

namespace Sys2Proof.Machine

/-- The value a comparison writes: `zext_64(1)` or `zext_64(0)` (41_alu.md R138). -/
def compareResult (c : Bool) : DWord := if c then 1 else 0

/-- `signed64(a) < signed64(b)` (41_alu.md R138). -/
def lessSigned (a b : DWord) : Bool := a.slt b

/-- The equality of `BEQ` and its kin, on all 64 bits (43_branch_jump.md R151). -/
def condEq (a b : DWord) : Bool := a == b

/-- The inequality of `BNE` and its kin (43_branch_jump.md R151). -/
def condNe (a b : DWord) : Bool := a != b

/-- `signed64(v) <= 0` (43_branch_jump.md R151). -/
def condLez (v : DWord) : Bool := v.sle 0

/-- `signed64(v) > 0` (43_branch_jump.md R151). -/
def condGtz (v : DWord) : Bool := (0 : DWord).slt v

/-- `signed64(v) < 0` (43_branch_jump.md R151). -/
def condLtz (v : DWord) : Bool := v.slt 0

/-- `signed64(v) >= 0` (43_branch_jump.md R151). -/
def condGez (v : DWord) : Bool := (0 : DWord).sle v

end Sys2Proof.Machine
end

