-- ==== Sys2Proof/Machine/Ops.lean ====
section
/-! DEFINITION. Ops: the shared operations: registers, memory, the memory port, taking a fault, retiring an instruction,
scheduling a branch and annulling a slot. Every meaning is written over these. -/

namespace Sys2Proof.Machine

/-! ## Registers -/

/-- `x[r]` (10_state.md R11; GPR 0 is read like any other, R12). -/
def State.getX (s : State) (r : RegId) : DWord := s.x[r.toNat]'r.isLt

/-- `x[r] <- v`, all 64 bits (10_state.md R13; a write to GPR 0 is kept, R12). -/
def State.setX (s : State) (r : RegId) (v : DWord) : State := { s with x := s.x.set r.toNat v r.isLt }

/-- `c0[r]` (10_state.md R16). -/
def State.getC0 (s : State) (r : RegId) : Word := s.c0[r.toNat]'r.isLt

/-- `c0[r] <- v`, all 32 bits, with no side effect (45_cop0_system.md R222). -/
def State.setC0 (s : State) (r : RegId) (v : Word) : State := { s with c0 := s.c0.set r.toNat v r.isLt }

/-- `HI` and `LO` written together (42_muldiv_hilo.md R141). -/
def State.setHiLo (s : State) (hi lo : DWord) : State := { s with hi := hi, lo := lo }

/-! ## Memory: the bytes behind the port -/

/-- What an address that is not listed reads as. DESIGN CHOICE (log 1), unsafe: the spec leaves the launch contents of memory to
the launch (20_memory.md R46). -/
def unlistedByte : Byte := 0

/-- `byte[a]`. -/
def Memory.read : Memory → Nat → Byte
  | [], _ => unlistedByte
  | (a, b) :: m, k => if a = k then b else Memory.read m k

/-- `byte[a] <- v`, keeping the canonical form: an entry that would hold what an unlisted address reads as is left out. -/
def Memory.write : Memory → Nat → Byte → Memory
  | [], k, v => if v = unlistedByte then [] else [(k, v)]
  | (a, b) :: m, k, v =>
    if k < a then (if v = unlistedByte then (a, b) :: m else (k, v) :: (a, b) :: m)
    else if k = a then (if v = unlistedByte then m else (k, v) :: m)
    else (a, b) :: Memory.write m k v

/-- The canonical form from the address `lowest` on. -/
def Memory.wfFrom (lowest : Nat) : Memory → Bool
  | [] => true
  | (a, b) :: m => decide (lowest ≤ a) && decide (a < 2 ^ 32) && b != unlistedByte && Memory.wfFrom (a + 1) m

/-- The canonical form: addresses strictly rising and below 2^32, no entry equal to what an unlisted address reads as. -/
def Memory.wf (m : Memory) : Bool := Memory.wfFrom 0 m

/-- The key of the byte at offset `k` from `a`: the address wraps mod 2^32 (20_memory.md R46). -/
def byteKey (a : Word) (k : Nat) : Nat := (a + BitVec.ofNat 32 k).toNat

/-- `byte[a] ++ byte[a+1] ++ byte[a+2] ++ byte[a+3]`, big-endian (20_memory.md R42, R46). -/
def Memory.readWord (m : Memory) (a : Word) : Word :=
  wordOfBytes (m.read (byteKey a 0)) (m.read (byteKey a 1)) (m.read (byteKey a 2)) (m.read (byteKey a 3))

/-- The four byte writes of a word, big-endian (20_memory.md R42, R46). -/
def Memory.writeWord (m : Memory) (a v : Word) : Memory :=
  (((m.write (byteKey a 0) (byteOfWord v 0)).write (byteKey a 1) (byteOfWord v 1)).write (byteKey a 2)
    (byteOfWord v 2)).write (byteKey a 3) (byteOfWord v 3)

/-- The bytes behind the port become `m`. -/
def State.setMem (s : State) (m : Memory) : State := { s with mem := m }

/-! ## The parameters as predicates -/

/-- The address lies in the range. -/
def AddrRange.holds (r : AddrRange) (a : Word) : Bool := decide (r.first ≤ a) && decide (a ≤ r.last)

/-- `INVALID_TARGET(t)` (40_step_and_dispatch.md R95). -/
def Params.invalidTarget (p : Params) (t : Word) : Bool := p.invalidTargets.any fun r => AddrRange.holds r t

/-- `r in COP0_WRITABLE` (45_cop0_system.md R222). -/
def Params.writable (p : Params) (r : RegId) : Bool := p.cop0Writable.any fun q => decide (q = r)

/-- `FlatMem` answers this call with a fault: a word access at an address that is not a multiple of 4 where `MISALIGNED_WORD` =
fault, "and nothing else" (20_memory.md R43, R46). -/
def Params.flatFaults (p : Params) : PortCall → Bool
  | .readWord a => decide (a.toNat % 4 ≠ 0) && decide (p.misaligned = .fault)
  | .writeWord a _ => decide (a.toNat % 4 ≠ 0) && decide (p.misaligned = .fault)
  | .readByte _ => false
  | .writeByte _ _ => false

/-! ## Taking a fault (there is no vector and no return: 60_exceptions.md R284, R289) -/

/-- Capture (60_exceptions.md R284): `halt <- 1` and one diagnostic with the kind, the address `p` and the word. Nothing else
changes. `pc` still holds `p`, because no handler writes it (10_state.md R18). -/
def State.capture (s : State) (kind : FaultKind) (word : Option Word) : State :=
  { s with
    halt := true
    out := { s.out with diagnostics := { kind := kind, address := s.pc, word := word } :: s.out.diagnostics } }

/-- `raise UnimplementedOperation(p, w)`, as the first and only action of a handler (60_exceptions.md R281). -/
def raiseUnimplemented (w : Word) (s : State) : Outcome := .next (s.capture .unimplementedOperation (some w))

/-! ## The memory port (20_memory.md R40, R41) -/

/-- The call writes the byte at `a`, if it is accepted: a word write covers four bytes, mod 2^32 (20_memory.md R45, R46). -/
def PortCall.writes (c : PortCall) (a : Word) : Bool :=
  match c with
  | .readByte _ => false
  | .readWord _ => false
  | .writeByte b _ => decide (a = b)
  | .writeWord b _ => decide ((a - b).toNat < 4)

/-- R56 binds the collaborator's answer to `c`: it reads a byte whose last write was an accepted `writeByte` (20_memory.md
R56). -/
def State.binds (s : State) (c : PortCall) : Bool :=
  match c with
  | .readByte a => decide (a ∈ s.settled)
  | .readWord _ => false
  | .writeByte _ _ => false
  | .writeWord _ _ => false

/-- The collaborator answers the next call, if it is `c`, with a fault (20_memory.md R41). A read that R56 binds does not fault,
since it "returns `v`" (log 11). -/
def State.faults (s : State) (c : PortCall) : Bool :=
  !s.binds c &&
    match s.answers with
    | [] => Params.flatFaults s.params c
    | .value _ :: _ => false
    | .fault :: _ => true

/-- The byte the collaborator answers to `readByte a`, where it does not fault: the byte last written there where R56 binds it,
whatever is listed. -/
def State.answeredByte (s : State) (a : Word) : Byte :=
  if s.binds (.readByte a) then s.mem.read a.toNat
  else
    match s.answers with
    | .value v :: _ => v.extractLsb' 0 8
    | _ => s.mem.read a.toNat

/-- The word the collaborator answers to `readWord a`, where it does not fault. -/
def State.answeredWord (s : State) (a : Word) : Word :=
  match s.answers with
  | .value v :: _ => v
  | _ => s.mem.readWord a

/-- The addresses that R56 binds after the call `c`: a write of any kind releases the bytes it covers, also one answered by a
fault, after which "whether memory changed is the collaborator's matter" (60_exceptions.md R283), and an accepted `writeByte`
binds its byte (20_memory.md R56; log 11). That nothing but these calls and the host's change of the memory releases a byte, so no write
by another agent inside `Mem` during a run (R51), is the model's choice. DESIGN CHOICE (log 13), unsafe. -/
def State.settledAfter (s : State) (c : PortCall) : List Word :=
  let kept := s.settled.filter fun a => !c.writes a
  match c with
  | .readByte _ => kept
  | .readWord _ => kept
  | .writeByte a _ => if s.faults c then kept else a :: kept
  | .writeWord _ _ => kept

/-- The call goes out on the port, takes up the answer that is listed for it, if one is, and binds or releases the bytes it
writes. -/
def State.called (s : State) (c : PortCall) : State :=
  { s with
    answers := s.answers.tail
    settled := s.settledAfter c
    out := { s.out with portCalls := c :: s.out.portCalls } }

/-- How a call on the port ends: with a value, or with the `MemoryFault` already captured (60_exceptions.md R283). -/
inductive Access (α : Type) where
  | done (v : α) (s : State)
  | faulted (s : State)

/-- `MemRead(a, 1)`: one `readByte` call (20_memory.md R41). -/
def State.memReadByte (s : State) (word : Option Word) (a : Word) : Access Byte :=
  if s.faults (.readByte a) then .faulted ((s.called (.readByte a)).capture (.memoryFault a) word)
  else .done (s.answeredByte a) (s.called (.readByte a))

/-- `MemRead(a, 4)`: one `readWord` call (20_memory.md R41). -/
def State.memReadWord (s : State) (word : Option Word) (a : Word) : Access Word :=
  if s.faults (.readWord a) then .faulted ((s.called (.readWord a)).capture (.memoryFault a) word)
  else .done (s.answeredWord a) (s.called (.readWord a))

/-- `MemWrite(a, 1, v)`: one `writeByte` call; a call answered by a fault changes no byte of `mem` (20_memory.md R41,
60_exceptions.md R283). -/
def State.memWriteByte (s : State) (word : Option Word) (a : Word) (v : Byte) : Access Unit :=
  if s.faults (.writeByte a v) then .faulted ((s.called (.writeByte a v)).capture (.memoryFault a) word)
  else .done () ((s.called (.writeByte a v)).setMem (s.mem.write a.toNat v))

/-- `MemWrite(a, 4, v)`: one `writeWord` call (20_memory.md R41). -/
def State.memWriteWord (s : State) (word : Option Word) (a v : Word) : Access Unit :=
  if s.faults (.writeWord a v) then .faulted ((s.called (.writeWord a v)).capture (.memoryFault a) word)
  else .done () ((s.called (.writeWord a v)).setMem (s.mem.writeWord a v))

/-! ## Retiring an instruction -/

/-- `UpdatePC(p, d0, annul)` (40_step_and_dispatch.md R93). The test is on the snapshot `d0`, not on the current `delayPC`. -/
def State.updatePC (s : State) (p d0 : Word) (annul : Bool) : State :=
  if d0 ≠ 0 then { s with pc := d0, delayPC := 0 }
  else if annul then { s with pc := p + 8 }
  else { s with pc := p + 4 }

/-- `opsExecuted <- opsExecuted + 1` (40_step_and_dispatch.md R94). -/
def State.countOp (s : State) : State := { s with opsExecuted := s.opsExecuted + 1 }

/-- The end of a step whose handler returned: `s0` is the state at its start, which holds the snapshots `p` and `d0`, and `s`
the state the handler left (40_step_and_dispatch.md R90). -/
def retire (s0 : State) (annul : Bool) (s : State) : Outcome := .next ((s.updatePC s0.pc s0.delayPC annul).countOp)

/-- A handler that neither schedules nor annuls returns, and the step ends. -/
def finish (s0 s : State) : Outcome := retire s0 false s

/-! ## Control transfer -/

/-- `ScheduleBranch(t)` as a handler's last action, and the end of the step (40_step_and_dispatch.md R95). In a delay slot the
situation has no meaning and is refused (R98); a target that `INVALID_TARGET` holds of raises `InvalidBranchTarget` before
`delayPC` is written (60_exceptions.md R282), and what the handler wrote before, the link, stays. -/
def scheduleBranch (w t : Word) (s0 s : State) : Outcome :=
  if s0.delayPC ≠ 0 then .refused .controlTransferInDelaySlot
  else if Params.invalidTarget s.params t then .next (s.capture (.invalidBranchTarget t) (some w))
  else finish s0 { s with delayPC := t }

/-- `Annul()` as a handler's only action, and the end of the step (40_step_and_dispatch.md R96); refused in a delay slot
(R98). -/
def annulSlot (s0 : State) : Outcome :=
  if s0.delayPC ≠ 0 then .refused .controlTransferInDelaySlot
  else retire s0 true s0

/-- A conditional branch: a false condition calls nothing (43_branch_jump.md R150). `s` is the state after the link write if
there is one. -/
def branchIf (c : Bool) (w t : Word) (s0 s : State) : Outcome := if c then scheduleBranch w t s0 s else finish s0 s

/-- A likely branch: a false condition annuls the slot (43_branch_jump.md section 4). -/
def branchLikely (c : Bool) (w t : Word) (s0 : State) : Outcome := if c then scheduleBranch w t s0 s0 else annulSlot s0

/-- `Link(p)`: `x[31] <- sext_64((p + 8) mod 2^32)` (43_branch_jump.md R152). -/
def State.link (s : State) : State := s.setX linkReg (linkValue s.pc)

end Sys2Proof.Machine
end

