-- ==== Sys2Proof/Machine/Alu.lean ====
section
/-! DEFINITION. Alu: arithmetic, logical, shift and compare instructions (41_alu.md). None touches memory, `HI`, `LO`, `c0` or
`delayPC`; overflow is silent (R110). -/

namespace Sys2Proof.Machine

/-- `ADD` (R111): sum of the low halves mod 2^32, sign-extended; no overflow fault. -/
def execAdd (rs rt rd : RegId) (s : State) : Outcome :=
  finish s (s.setX rd (sext64 (lo32 (s.getX rs) + lo32 (s.getX rt))))

/-- `ADDU` (R112): sum of the low halves mod 2^32, sign-extended; no overflow fault. -/
def execAddu (rs rt rd : RegId) (s : State) : Outcome :=
  finish s (s.setX rd (sext64 (lo32 (s.getX rs) + lo32 (s.getX rt))))

/-- `SUB` (R113): difference of the low halves mod 2^32, sign-extended; no overflow fault. -/
def execSub (rs rt rd : RegId) (s : State) : Outcome :=
  finish s (s.setX rd (sext64 (lo32 (s.getX rs) - lo32 (s.getX rt))))

/-- `SUBU` (R114): difference of the low halves mod 2^32, sign-extended; no overflow fault. -/
def execSubu (rs rt rd : RegId) (s : State) : Outcome :=
  finish s (s.setX rd (sext64 (lo32 (s.getX rs) - lo32 (s.getX rt))))

/-- `ADDI` (R115): low half plus the sign-extended immediate mod 2^32, sign-extended. -/
def execAddi (rs rt : RegId) (imm16 : BitVec 16) (s : State) : Outcome :=
  finish s (s.setX rt (sext64 (lo32 (s.getX rs) + immSext32 imm16)))

/-- `ADDIU` (R116): low half plus the sign-extended immediate mod 2^32, sign-extended. -/
def execAddiu (rs rt : RegId) (imm16 : BitVec 16) (s : State) : Outcome :=
  finish s (s.setX rt (sext64 (lo32 (s.getX rs) + immSext32 imm16)))

/-- `AND` (R117): on all 64 bits. -/
def execAnd (rs rt rd : RegId) (s : State) : Outcome :=
  finish s (s.setX rd (s.getX rs &&& s.getX rt))

/-- `OR` (R118): on all 64 bits. -/
def execOr (rs rt rd : RegId) (s : State) : Outcome :=
  finish s (s.setX rd (s.getX rs ||| s.getX rt))

/-- `XOR` (R119): on all 64 bits. -/
def execXor (rs rt rd : RegId) (s : State) : Outcome :=
  finish s (s.setX rd (s.getX rs ^^^ s.getX rt))

/-- `ANDI` (R120): on all 64 bits, with the zero-extended immediate. -/
def execAndi (rs rt : RegId) (imm16 : BitVec 16) (s : State) : Outcome :=
  finish s (s.setX rt (s.getX rs &&& immZext64 imm16))

/-- `ORI` (R121): on all 64 bits, with the zero-extended immediate. -/
def execOri (rs rt : RegId) (imm16 : BitVec 16) (s : State) : Outcome :=
  finish s (s.setX rt (s.getX rs ||| immZext64 imm16))

/-- `XORI` (R122): on all 64 bits, with the zero-extended immediate. -/
def execXori (rs rt : RegId) (imm16 : BitVec 16) (s : State) : Outcome :=
  finish s (s.setX rt (s.getX rs ^^^ immZext64 imm16))

/-- `SLL` (R123): left shift of the low half by `sa`, sign-extended. -/
def execSll (rt rd : RegId) (sa : BitVec 5) (s : State) : Outcome :=
  finish s (s.setX rd (sext64 (lo32 (s.getX rt) <<< sa.toNat)))

/-- `SRL` (R124): logical right shift of the low half by `sa`, sign-extended. -/
def execSrl (rt rd : RegId) (sa : BitVec 5) (s : State) : Outcome :=
  finish s (s.setX rd (sext64 (lo32 (s.getX rt) >>> sa.toNat)))

/-- `SRA` (R125): arithmetic right shift of the low half by `sa`, sign-extended. -/
def execSra (rt rd : RegId) (sa : BitVec 5) (s : State) : Outcome :=
  finish s (s.setX rd (sext64 ((lo32 (s.getX rt)).sshiftRight sa.toNat)))

/-- `SLLV` (R126): left shift of the low half by the low five bits of `x[rs]`, sign-extended. -/
def execSllv (rs rt rd : RegId) (s : State) : Outcome :=
  finish s (s.setX rd (sext64 (lo32 (s.getX rt) <<< (shiftAmount (s.getX rs)).toNat)))

/-- `SRLV` (R127): logical right shift of the low half by the low five bits of `x[rs]`, sign-extended. -/
def execSrlv (rs rt rd : RegId) (s : State) : Outcome :=
  finish s (s.setX rd (sext64 (lo32 (s.getX rt) >>> (shiftAmount (s.getX rs)).toNat)))

/-- `SRAV` (R128): arithmetic right shift of the low half by the low five bits of `x[rs]`, sign-extended. -/
def execSrav (rs rt rd : RegId) (s : State) : Outcome :=
  finish s (s.setX rd (sext64 ((lo32 (s.getX rt)).sshiftRight (shiftAmount (s.getX rs)).toNat)))

/-- `SLT` (R129): 64-bit signed comparison. -/
def execSlt (rs rt rd : RegId) (s : State) : Outcome :=
  finish s (s.setX rd (compareResult (lessSigned (s.getX rs) (s.getX rt))))

/-- `SLTU` (R130): 64-bit signed comparison, identical to `SLT`. -/
def execSltu (rs rt rd : RegId) (s : State) : Outcome :=
  finish s (s.setX rd (compareResult (lessSigned (s.getX rs) (s.getX rt))))

/-- `SLTI` (R131): 64-bit signed comparison with the sign-extended immediate. -/
def execSlti (rs rt : RegId) (imm16 : BitVec 16) (s : State) : Outcome :=
  finish s (s.setX rt (compareResult (lessSigned (s.getX rs) (immSext64 imm16))))

/-- `SLTIU` (R132): 64-bit signed comparison with the sign-extended immediate, identical to `SLTI`. -/
def execSltiu (rs rt : RegId) (imm16 : BitVec 16) (s : State) : Outcome :=
  finish s (s.setX rt (compareResult (lessSigned (s.getX rs) (immSext64 imm16))))

/-- `NOR` (R133): raises `UnimplementedOperation`. -/
def execNor (rs rt rd : RegId) (sa : BitVec 5) (s : State) : Outcome :=
  raiseUnimplemented (encode (.nor rs rt rd sa)) s

/-- `LUI` (R134): raises `UnimplementedOperation`. -/
def execLui (rs rt : RegId) (imm16 : BitVec 16) (s : State) : Outcome :=
  raiseUnimplemented (encode (.lui rs rt imm16)) s

end Sys2Proof.Machine
end

