-- ==== Sys2Proof/Machine/Branch.lean ====
section
/-! DEFINITION. Branch: jumps, branches, likely branches and links (43_branch_jump.md). No meaning writes `pc`: a taken transfer goes
through `scheduleBranch` (R150). -/

namespace Sys2Proof.Machine

/-- `J` (R153). -/
def execJ (target26 : BitVec 26) (s : State) : Outcome :=
  scheduleBranch (encode (.j target26)) (jumpTarget s.pc target26) s s

/-- `JAL` (R154): the link is written first. -/
def execJal (target26 : BitVec 26) (s : State) : Outcome :=
  scheduleBranch (encode (.jal target26)) (jumpTarget s.pc target26) s s.link

/-- `JR` (R155): the target is `lo32(x[rs])`. -/
def execJr (rs rt rd : RegId) (sa : BitVec 5) (s : State) : Outcome :=
  scheduleBranch (encode (.jr rs rt rd sa)) (lo32 (s.getX rs)) s s

/-- `BEQ` (R156). -/
def execBeq (rs rt : RegId) (imm16 : BitVec 16) (s : State) : Outcome :=
  branchIf (condEq (s.getX rs) (s.getX rt)) (encode (.beq rs rt imm16)) (branchTarget s.pc imm16) s s

/-- `BNE` (R157). -/
def execBne (rs rt : RegId) (imm16 : BitVec 16) (s : State) : Outcome :=
  branchIf (condNe (s.getX rs) (s.getX rt)) (encode (.bne rs rt imm16)) (branchTarget s.pc imm16) s s

/-- `BLEZ` (R158). -/
def execBlez (rs rt : RegId) (imm16 : BitVec 16) (s : State) : Outcome :=
  branchIf (condLez (s.getX rs)) (encode (.blez rs rt imm16)) (branchTarget s.pc imm16) s s

/-- `BGTZ` (R159). -/
def execBgtz (rs rt : RegId) (imm16 : BitVec 16) (s : State) : Outcome :=
  branchIf (condGtz (s.getX rs)) (encode (.bgtz rs rt imm16)) (branchTarget s.pc imm16) s s

/-- `BLTZ` (R160). -/
def execBltz (rs : RegId) (imm16 : BitVec 16) (s : State) : Outcome :=
  branchIf (condLtz (s.getX rs)) (encode (.bltz rs imm16)) (branchTarget s.pc imm16) s s

/-- `BGEZ` (R161). -/
def execBgez (rs : RegId) (imm16 : BitVec 16) (s : State) : Outcome :=
  branchIf (condGez (s.getX rs)) (encode (.bgez rs imm16)) (branchTarget s.pc imm16) s s

/-- `BLTZAL` (R162): the link is written whether or not the branch is taken; `rs` = 31 is unspecified and refused (R152). -/
def execBltzal (rs : RegId) (imm16 : BitVec 16) (s : State) : Outcome :=
  if rs = linkReg then .refused .linkRegisterTested
  else branchIf (condLtz (s.getX rs)) (encode (.bltzal rs imm16)) (branchTarget s.pc imm16) s s.link

/-- `BGEZAL` (R163): the link is written whether or not the branch is taken; `rs` = 31 is unspecified and refused (R152). -/
def execBgezal (rs : RegId) (imm16 : BitVec 16) (s : State) : Outcome :=
  if rs = linkReg then .refused .linkRegisterTested
  else branchIf (condGez (s.getX rs)) (encode (.bgezal rs imm16)) (branchTarget s.pc imm16) s s.link

/-- `BEQL` (R164). -/
def execBeql (rs rt : RegId) (imm16 : BitVec 16) (s : State) : Outcome :=
  branchLikely (condEq (s.getX rs) (s.getX rt)) (encode (.beql rs rt imm16)) (branchTarget s.pc imm16) s

/-- `BNEL` (R165). -/
def execBnel (rs rt : RegId) (imm16 : BitVec 16) (s : State) : Outcome :=
  branchLikely (condNe (s.getX rs) (s.getX rt)) (encode (.bnel rs rt imm16)) (branchTarget s.pc imm16) s

/-- `BLEZL` (R166). -/
def execBlezl (rs rt : RegId) (imm16 : BitVec 16) (s : State) : Outcome :=
  branchLikely (condLez (s.getX rs)) (encode (.blezl rs rt imm16)) (branchTarget s.pc imm16) s

/-- `BGTZL` (R167). -/
def execBgtzl (rs rt : RegId) (imm16 : BitVec 16) (s : State) : Outcome :=
  branchLikely (condGtz (s.getX rs)) (encode (.bgtzl rs rt imm16)) (branchTarget s.pc imm16) s

/-- `BLTZL` (R168). -/
def execBltzl (rs : RegId) (imm16 : BitVec 16) (s : State) : Outcome :=
  branchLikely (condLtz (s.getX rs)) (encode (.bltzl rs imm16)) (branchTarget s.pc imm16) s

/-- `BGEZL` (R169). -/
def execBgezl (rs : RegId) (imm16 : BitVec 16) (s : State) : Outcome :=
  branchLikely (condGez (s.getX rs)) (encode (.bgezl rs imm16)) (branchTarget s.pc imm16) s

/-- `JALR` (R170): raises `UnimplementedOperation`; no link, no schedule. -/
def execJalr (rs rt rd : RegId) (sa : BitVec 5) (s : State) : Outcome :=
  raiseUnimplemented (encode (.jalr rs rt rd sa)) s

/-- `BLTZALL` (R171): raises `UnimplementedOperation`; no link, no schedule. -/
def execBltzall (rs : RegId) (imm16 : BitVec 16) (s : State) : Outcome :=
  raiseUnimplemented (encode (.bltzall rs imm16)) s

/-- `BGEZALL` (R172): raises `UnimplementedOperation`; no link, no schedule. -/
def execBgezall (rs : RegId) (imm16 : BitVec 16) (s : State) : Outcome :=
  raiseUnimplemented (encode (.bgezall rs imm16)) s

end Sys2Proof.Machine
end

