-- ==== Sys2Proof/Machine/Cop0System.lean ====
section
/-! DEFINITION. Cop0System: coprocessor-0 access and system instructions (45_cop0_system.md). There is no environment call, no breakpoint
exception, no trap, no return from exception, no privilege check and no TLB. -/

namespace Sys2Proof.Machine

/-- `MFC0` (R221): the control register, sign-extended; for every `rd`. -/
def execMfc0 (rt rd : RegId) (s : State) : Outcome :=
  finish s (s.setX rt (sext64 (s.getC0 rd)))

/-- `MTC0` (R222): stores `lo32(x[rt])` where `rd` is in `COP0_WRITABLE`, else raises `UnimplementedOperation`. -/
def execMtc0 (rt rd : RegId) (low11 : BitVec 11) (s : State) : Outcome :=
  if Params.writable s.params rd then finish s (s.setC0 rd (lo32 (s.getX rt)))
  else raiseUnimplemented (encode (.mtc0 rt rd low11)) s

/-- `DMFC0` (R223): raises `UnimplementedOperation`. -/
def execDmfc0 (rt rd : RegId) (low11 : BitVec 11) (s : State) : Outcome :=
  raiseUnimplemented (encode (.dmfc0 rt rd low11)) s

/-- `DMTC0` (R224): raises `UnimplementedOperation`. -/
def execDmtc0 (rt rd : RegId) (low11 : BitVec 11) (s : State) : Outcome :=
  raiseUnimplemented (encode (.dmtc0 rt rd low11)) s

/-- `BC0` (R225): raises `UnimplementedOperation`. -/
def execBc0 (rt : RegId) (imm16 : BitVec 16) (s : State) : Outcome :=
  raiseUnimplemented (encode (.bc0 rt imm16)) s

/-- `TLBR` (R226): raises `UnimplementedOperation`. -/
def execTlbr (co : BitVec 19) (s : State) : Outcome :=
  raiseUnimplemented (encode (.tlbr co)) s

/-- `TLBWI` (R227): raises `UnimplementedOperation`. -/
def execTlbwi (co : BitVec 19) (s : State) : Outcome :=
  raiseUnimplemented (encode (.tlbwi co)) s

/-- `TLBWR` (R228): raises `UnimplementedOperation`. -/
def execTlbwr (co : BitVec 19) (s : State) : Outcome :=
  raiseUnimplemented (encode (.tlbwr co)) s

/-- `TLBP` (R229): raises `UnimplementedOperation`. -/
def execTlbp (co : BitVec 19) (s : State) : Outcome :=
  raiseUnimplemented (encode (.tlbp co)) s

/-- `ERET` (R230): raises `UnimplementedOperation`; there is nothing to return from. -/
def execEret (co : BitVec 19) (s : State) : Outcome :=
  raiseUnimplemented (encode (.eret co)) s

/-- `SYSCALL` (R232): raises `UnimplementedOperation`; nothing is vectored, `c0[13]` and `c0[14]` are not written. -/
def execSyscall (code : BitVec 20) (s : State) : Outcome :=
  raiseUnimplemented (encode (.syscall code)) s

/-- `BREAK` (R233): raises `UnimplementedOperation`. -/
def execBreak (code : BitVec 20) (s : State) : Outcome :=
  raiseUnimplemented (encode (.brk code)) s

/-- `SYNC` (R234): raises `UnimplementedOperation`; it is not a no-op. -/
def execSync (code : BitVec 20) (s : State) : Outcome :=
  raiseUnimplemented (encode (.sync code)) s

/-- `TGE` (R235): raises `UnimplementedOperation`. -/
def execTge (rs rt rd : RegId) (sa : BitVec 5) (s : State) : Outcome :=
  raiseUnimplemented (encode (.tge rs rt rd sa)) s

/-- `TGEU` (R236): raises `UnimplementedOperation`. -/
def execTgeu (rs rt rd : RegId) (sa : BitVec 5) (s : State) : Outcome :=
  raiseUnimplemented (encode (.tgeu rs rt rd sa)) s

/-- `TLT` (R237): raises `UnimplementedOperation`. -/
def execTlt (rs rt rd : RegId) (sa : BitVec 5) (s : State) : Outcome :=
  raiseUnimplemented (encode (.tlt rs rt rd sa)) s

/-- `TLTU` (R238): raises `UnimplementedOperation`. -/
def execTltu (rs rt rd : RegId) (sa : BitVec 5) (s : State) : Outcome :=
  raiseUnimplemented (encode (.tltu rs rt rd sa)) s

/-- `TEQ` (R239): raises `UnimplementedOperation`. -/
def execTeq (rs rt rd : RegId) (sa : BitVec 5) (s : State) : Outcome :=
  raiseUnimplemented (encode (.teq rs rt rd sa)) s

/-- `TNE` (R240): raises `UnimplementedOperation`. -/
def execTne (rs rt rd : RegId) (sa : BitVec 5) (s : State) : Outcome :=
  raiseUnimplemented (encode (.tne rs rt rd sa)) s

/-- `TGEI` (R241): raises `UnimplementedOperation`. -/
def execTgei (rs : RegId) (imm16 : BitVec 16) (s : State) : Outcome :=
  raiseUnimplemented (encode (.tgei rs imm16)) s

/-- `TGEIU` (R242): raises `UnimplementedOperation`. -/
def execTgeiu (rs : RegId) (imm16 : BitVec 16) (s : State) : Outcome :=
  raiseUnimplemented (encode (.tgeiu rs imm16)) s

/-- `TLTI` (R243): raises `UnimplementedOperation`. -/
def execTlti (rs : RegId) (imm16 : BitVec 16) (s : State) : Outcome :=
  raiseUnimplemented (encode (.tlti rs imm16)) s

/-- `TLTIU` (R244): raises `UnimplementedOperation`. -/
def execTltiu (rs : RegId) (imm16 : BitVec 16) (s : State) : Outcome :=
  raiseUnimplemented (encode (.tltiu rs imm16)) s

/-- `TEQI` (R245): raises `UnimplementedOperation`. -/
def execTeqi (rs : RegId) (imm16 : BitVec 16) (s : State) : Outcome :=
  raiseUnimplemented (encode (.teqi rs imm16)) s

/-- `TNEI` (R246): raises `UnimplementedOperation`. -/
def execTnei (rs : RegId) (imm16 : BitVec 16) (s : State) : Outcome :=
  raiseUnimplemented (encode (.tnei rs imm16)) s

end Sys2Proof.Machine
end

