-- ==== Sys2Proof/Machine/Doubleword.lean ====
section
/-! DEFINITION. Doubleword: the 64-bit family and the other coprocessors, all of which fault (46_doubleword_cop1_reserved.md R250, R270,
R271). -/

namespace Sys2Proof.Machine

/-- `DADDI` (R255): raises `UnimplementedOperation`. -/
def execDaddi (rs rt : RegId) (imm16 : BitVec 16) (s : State) : Outcome :=
  raiseUnimplemented (encode (.daddi rs rt imm16)) s

/-- `DADDIU` (R256): raises `UnimplementedOperation`. -/
def execDaddiu (rs rt : RegId) (imm16 : BitVec 16) (s : State) : Outcome :=
  raiseUnimplemented (encode (.daddiu rs rt imm16)) s

/-- `COP1` (R270): raises `UnimplementedOperation`. -/
def execCop1 (body : BitVec 26) (s : State) : Outcome :=
  raiseUnimplemented (encode (.cop1 body)) s

/-- `COP2` (R271): raises `UnimplementedOperation`. -/
def execCop2 (body : BitVec 26) (s : State) : Outcome :=
  raiseUnimplemented (encode (.cop2 body)) s

/-- `DSLLV` (R260): raises `UnimplementedOperation`. -/
def execDsllv (rs rt rd : RegId) (sa : BitVec 5) (s : State) : Outcome :=
  raiseUnimplemented (encode (.dsllv rs rt rd sa)) s

/-- `DSRLV` (R261): raises `UnimplementedOperation`. -/
def execDsrlv (rs rt rd : RegId) (sa : BitVec 5) (s : State) : Outcome :=
  raiseUnimplemented (encode (.dsrlv rs rt rd sa)) s

/-- `DSRAV` (R262): raises `UnimplementedOperation`. -/
def execDsrav (rs rt rd : RegId) (sa : BitVec 5) (s : State) : Outcome :=
  raiseUnimplemented (encode (.dsrav rs rt rd sa)) s

/-- `DMULT` (R266): raises `UnimplementedOperation`. -/
def execDmult (rs rt rd : RegId) (sa : BitVec 5) (s : State) : Outcome :=
  raiseUnimplemented (encode (.dmult rs rt rd sa)) s

/-- `DMULTU` (R267): raises `UnimplementedOperation`. -/
def execDmultu (rs rt rd : RegId) (sa : BitVec 5) (s : State) : Outcome :=
  raiseUnimplemented (encode (.dmultu rs rt rd sa)) s

/-- `DDIV` (R268): raises `UnimplementedOperation`. -/
def execDdiv (rs rt rd : RegId) (sa : BitVec 5) (s : State) : Outcome :=
  raiseUnimplemented (encode (.ddiv rs rt rd sa)) s

/-- `DDIVU` (R269): raises `UnimplementedOperation`. -/
def execDdivu (rs rt rd : RegId) (sa : BitVec 5) (s : State) : Outcome :=
  raiseUnimplemented (encode (.ddivu rs rt rd sa)) s

/-- `DADD` (R251): raises `UnimplementedOperation`. -/
def execDadd (rs rt rd : RegId) (sa : BitVec 5) (s : State) : Outcome :=
  raiseUnimplemented (encode (.dadd rs rt rd sa)) s

/-- `DADDU` (R252): raises `UnimplementedOperation`. -/
def execDaddu (rs rt rd : RegId) (sa : BitVec 5) (s : State) : Outcome :=
  raiseUnimplemented (encode (.daddu rs rt rd sa)) s

/-- `DSUB` (R253): raises `UnimplementedOperation`. -/
def execDsub (rs rt rd : RegId) (sa : BitVec 5) (s : State) : Outcome :=
  raiseUnimplemented (encode (.dsub rs rt rd sa)) s

/-- `DSUBU` (R254): raises `UnimplementedOperation`. -/
def execDsubu (rs rt rd : RegId) (sa : BitVec 5) (s : State) : Outcome :=
  raiseUnimplemented (encode (.dsubu rs rt rd sa)) s

/-- `DSLL` (R257): raises `UnimplementedOperation`. -/
def execDsll (rs rt rd : RegId) (sa : BitVec 5) (s : State) : Outcome :=
  raiseUnimplemented (encode (.dsll rs rt rd sa)) s

/-- `DSRL` (R258): raises `UnimplementedOperation`. -/
def execDsrl (rs rt rd : RegId) (sa : BitVec 5) (s : State) : Outcome :=
  raiseUnimplemented (encode (.dsrl rs rt rd sa)) s

/-- `DSRA` (R259): raises `UnimplementedOperation`. -/
def execDsra (rs rt rd : RegId) (sa : BitVec 5) (s : State) : Outcome :=
  raiseUnimplemented (encode (.dsra rs rt rd sa)) s

/-- `DSLL32` (R263): raises `UnimplementedOperation`. -/
def execDsll32 (rs rt rd : RegId) (sa : BitVec 5) (s : State) : Outcome :=
  raiseUnimplemented (encode (.dsll32 rs rt rd sa)) s

/-- `DSRL32` (R264): raises `UnimplementedOperation`. -/
def execDsrl32 (rs rt rd : RegId) (sa : BitVec 5) (s : State) : Outcome :=
  raiseUnimplemented (encode (.dsrl32 rs rt rd sa)) s

/-- `DSRA32` (R265): raises `UnimplementedOperation`. -/
def execDsra32 (rs rt rd : RegId) (sa : BitVec 5) (s : State) : Outcome :=
  raiseUnimplemented (encode (.dsra32 rs rt rd sa)) s

end Sys2Proof.Machine
end

