-- ==== Sys2Proof/Machine/LoadStore.lean ====
section
/-! DEFINITION. LoadStore: loads, stores and CACHE (44_load_store.md). One addressing mode, base plus displacement (R180); at most one
call on the port. A load that faults writes no register (R181 to R183). -/

namespace Sys2Proof.Machine

/-- The end of a load: a value goes to a register and the step retires; a faulted call has already been captured. `s0` is the
state at the start of the step. -/
def finishLoad {α : Type} (s0 : State) (rt : RegId) (extend : α → DWord) : Access α → Outcome
  | .done v s => finish s0 (s.setX rt (extend v))
  | .faulted s => .next s

/-- The end of a store. -/
def finishStore (s0 : State) : Access Unit → Outcome
  | .done _ s => finish s0 s
  | .faulted s => .next s

/-- `LB` (R181): the byte is zero-extended. -/
def execLb (rs rt : RegId) (imm16 : BitVec 16) (s : State) : Outcome :=
  finishLoad s rt zext64OfByte
    (s.memReadByte (some (encode (.lb rs rt imm16))) (effectiveAddress (s.getX rs) imm16))

/-- `LBU` (R182): the byte is zero-extended. -/
def execLbu (rs rt : RegId) (imm16 : BitVec 16) (s : State) : Outcome :=
  finishLoad s rt zext64OfByte
    (s.memReadByte (some (encode (.lbu rs rt imm16))) (effectiveAddress (s.getX rs) imm16))

/-- `LW` (R183): the word is sign-extended. -/
def execLw (rs rt : RegId) (imm16 : BitVec 16) (s : State) : Outcome :=
  finishLoad s rt sext64
    (s.memReadWord (some (encode (.lw rs rt imm16))) (effectiveAddress (s.getX rs) imm16))

/-- `SB` (R184): stores `x[rt][7:0]`. -/
def execSb (rs rt : RegId) (imm16 : BitVec 16) (s : State) : Outcome :=
  finishStore s
    (s.memWriteByte (some (encode (.sb rs rt imm16))) (effectiveAddress (s.getX rs) imm16) ((s.getX rt).extractLsb' 0 8))

/-- `SW` (R185): stores `lo32(x[rt])`. -/
def execSw (rs rt : RegId) (imm16 : BitVec 16) (s : State) : Outcome :=
  finishStore s
    (s.memWriteWord (some (encode (.sw rs rt imm16))) (effectiveAddress (s.getX rs) imm16) (lo32 (s.getX rt)))

/-- `CACHE` (R186): a no-op for every operand: no address, no call, no register; it retires. -/
def execCache (s : State) : Outcome := finish s s

/-- `LH` (R187): raises `UnimplementedOperation`. -/
def execLh (rs rt : RegId) (imm16 : BitVec 16) (s : State) : Outcome :=
  raiseUnimplemented (encode (.lh rs rt imm16)) s

/-- `LWL` (R191): raises `UnimplementedOperation`. -/
def execLwl (rs rt : RegId) (imm16 : BitVec 16) (s : State) : Outcome :=
  raiseUnimplemented (encode (.lwl rs rt imm16)) s

/-- `LHU` (R188): raises `UnimplementedOperation`. -/
def execLhu (rs rt : RegId) (imm16 : BitVec 16) (s : State) : Outcome :=
  raiseUnimplemented (encode (.lhu rs rt imm16)) s

/-- `LWR` (R192): raises `UnimplementedOperation`. -/
def execLwr (rs rt : RegId) (imm16 : BitVec 16) (s : State) : Outcome :=
  raiseUnimplemented (encode (.lwr rs rt imm16)) s

/-- `LWU` (R189): raises `UnimplementedOperation`. -/
def execLwu (rs rt : RegId) (imm16 : BitVec 16) (s : State) : Outcome :=
  raiseUnimplemented (encode (.lwu rs rt imm16)) s

/-- `SH` (R190): raises `UnimplementedOperation`. -/
def execSh (rs rt : RegId) (imm16 : BitVec 16) (s : State) : Outcome :=
  raiseUnimplemented (encode (.sh rs rt imm16)) s

/-- `SWL` (R193): raises `UnimplementedOperation`. -/
def execSwl (rs rt : RegId) (imm16 : BitVec 16) (s : State) : Outcome :=
  raiseUnimplemented (encode (.swl rs rt imm16)) s

/-- `SDL` (R199): raises `UnimplementedOperation`. -/
def execSdl (rs rt : RegId) (imm16 : BitVec 16) (s : State) : Outcome :=
  raiseUnimplemented (encode (.sdl rs rt imm16)) s

/-- `SDR` (R200): raises `UnimplementedOperation`. -/
def execSdr (rs rt : RegId) (imm16 : BitVec 16) (s : State) : Outcome :=
  raiseUnimplemented (encode (.sdr rs rt imm16)) s

/-- `SWR` (R194): raises `UnimplementedOperation`. -/
def execSwr (rs rt : RegId) (imm16 : BitVec 16) (s : State) : Outcome :=
  raiseUnimplemented (encode (.swr rs rt imm16)) s

/-- `LL` (R201): raises `UnimplementedOperation`. -/
def execLl (rs rt : RegId) (imm16 : BitVec 16) (s : State) : Outcome :=
  raiseUnimplemented (encode (.ll rs rt imm16)) s

/-- `LWC1` (R205): raises `UnimplementedOperation`. -/
def execLwc1 (rs rt : RegId) (imm16 : BitVec 16) (s : State) : Outcome :=
  raiseUnimplemented (encode (.lwc1 rs rt imm16)) s

/-- `LWC2` (R209): raises `UnimplementedOperation`. -/
def execLwc2 (rs rt : RegId) (imm16 : BitVec 16) (s : State) : Outcome :=
  raiseUnimplemented (encode (.lwc2 rs rt imm16)) s

/-- `LLD` (R203): raises `UnimplementedOperation`. -/
def execLld (rs rt : RegId) (imm16 : BitVec 16) (s : State) : Outcome :=
  raiseUnimplemented (encode (.lld rs rt imm16)) s

/-- `LDC1` (R207): raises `UnimplementedOperation`. -/
def execLdc1 (rs rt : RegId) (imm16 : BitVec 16) (s : State) : Outcome :=
  raiseUnimplemented (encode (.ldc1 rs rt imm16)) s

/-- `LDC2` (R210): raises `UnimplementedOperation`. -/
def execLdc2 (rs rt : RegId) (imm16 : BitVec 16) (s : State) : Outcome :=
  raiseUnimplemented (encode (.ldc2 rs rt imm16)) s

/-- `LD` (R195): raises `UnimplementedOperation`. -/
def execLd (rs rt : RegId) (imm16 : BitVec 16) (s : State) : Outcome :=
  raiseUnimplemented (encode (.ld rs rt imm16)) s

/-- `SC` (R202): raises `UnimplementedOperation`. -/
def execSc (rs rt : RegId) (imm16 : BitVec 16) (s : State) : Outcome :=
  raiseUnimplemented (encode (.sc rs rt imm16)) s

/-- `SWC1` (R206): raises `UnimplementedOperation`. -/
def execSwc1 (rs rt : RegId) (imm16 : BitVec 16) (s : State) : Outcome :=
  raiseUnimplemented (encode (.swc1 rs rt imm16)) s

/-- `SWC2` (R211): raises `UnimplementedOperation`. -/
def execSwc2 (rs rt : RegId) (imm16 : BitVec 16) (s : State) : Outcome :=
  raiseUnimplemented (encode (.swc2 rs rt imm16)) s

/-- `SCD` (R204): raises `UnimplementedOperation`. -/
def execScd (rs rt : RegId) (imm16 : BitVec 16) (s : State) : Outcome :=
  raiseUnimplemented (encode (.scd rs rt imm16)) s

/-- `SDC1` (R208): raises `UnimplementedOperation`. -/
def execSdc1 (rs rt : RegId) (imm16 : BitVec 16) (s : State) : Outcome :=
  raiseUnimplemented (encode (.sdc1 rs rt imm16)) s

/-- `SDC2` (R212): raises `UnimplementedOperation`. -/
def execSdc2 (rs rt : RegId) (imm16 : BitVec 16) (s : State) : Outcome :=
  raiseUnimplemented (encode (.sdc2 rs rt imm16)) s

/-- `SD` (R196): raises `UnimplementedOperation`. -/
def execSd (rs rt : RegId) (imm16 : BitVec 16) (s : State) : Outcome :=
  raiseUnimplemented (encode (.sd rs rt imm16)) s

/-- `LDL` (R197): raises `UnimplementedOperation`. -/
def execLdl (rs rt : RegId) (imm16 : BitVec 16) (s : State) : Outcome :=
  raiseUnimplemented (encode (.ldl rs rt imm16)) s

/-- `LDR` (R198): raises `UnimplementedOperation`. -/
def execLdr (rs rt : RegId) (imm16 : BitVec 16) (s : State) : Outcome :=
  raiseUnimplemented (encode (.ldr rs rt imm16)) s

end Sys2Proof.Machine
end

