-- ==== Sys2Proof/Machine/MulHiLo.lean ====
section
/-! DEFINITION. MulHiLo: multiply and the HI/LO accumulator pair (42_muldiv_hilo.md). -/

namespace Sys2Proof.Machine

/-- The exact product of the low halves read as signed 32-bit numbers, as a 64-bit pattern: it always fits (42_muldiv_hilo.md
R141). -/
def product (a b : DWord) : DWord := sext64 (lo32 a) * sext64 (lo32 b)

/-- `LO <- sext_64(prod[31:0])`, `HI <- sext_64(prod[63:32])` (42_muldiv_hilo.md R141). -/
def State.setProduct (s : State) (prod : DWord) : State :=
  s.setHiLo (sext64 (prod.extractLsb' 32 32)) (sext64 (prod.extractLsb' 0 32))

/-- `MULT` (R141): signed multiply of the low halves. -/
def execMult (rs rt : RegId) (s : State) : Outcome :=
  finish s (s.setProduct (product (s.getX rs) (s.getX rt)))

/-- `MULTU` (R142): the same signed multiply. -/
def execMultu (rs rt : RegId) (s : State) : Outcome :=
  finish s (s.setProduct (product (s.getX rs) (s.getX rt)))

/-- `MFHI` (R143): all 64 bits. -/
def execMfhi (rd : RegId) (s : State) : Outcome :=
  finish s (s.setX rd s.hi)

/-- `MFLO` (R144): all 64 bits. -/
def execMflo (rd : RegId) (s : State) : Outcome :=
  finish s (s.setX rd s.lo)

/-- `MTHI` (R145): raises `UnimplementedOperation`; `HI` is not written. -/
def execMthi (rs rt rd : RegId) (sa : BitVec 5) (s : State) : Outcome :=
  raiseUnimplemented (encode (.mthi rs rt rd sa)) s

/-- `MTLO` (R146): raises `UnimplementedOperation`; `LO` is not written. -/
def execMtlo (rs rt rd : RegId) (sa : BitVec 5) (s : State) : Outcome :=
  raiseUnimplemented (encode (.mtlo rs rt rd sa)) s

/-- `DIV` (R147): raises `UnimplementedOperation`, whatever the divisor. -/
def execDiv (rs rt rd : RegId) (sa : BitVec 5) (s : State) : Outcome :=
  raiseUnimplemented (encode (.div rs rt rd sa)) s

/-- `DIVU` (R148): raises `UnimplementedOperation`, whatever the divisor. -/
def execDivu (rs rt rd : RegId) (sa : BitVec 5) (s : State) : Outcome :=
  raiseUnimplemented (encode (.divu rs rt rd sa)) s

end Sys2Proof.Machine
end

