-- ==== Sys2Proof/Machine/Dispatch.lean ====
section
/-! DEFINITION. Dispatch: one arm per instruction. -/

namespace Sys2Proof.Machine

def exec (i : Instr) (s : State) : Host.Outcome State Fault Refusal :=
  match i with
  -- Rows of the primary table (30_encoding.md R67), by opcode.
  | .j target26 => Sys2Proof.Machine.execJ target26 s
  | .jal target26 => Sys2Proof.Machine.execJal target26 s
  | .beq rs rt imm16 => Sys2Proof.Machine.execBeq rs rt imm16 s
  | .bne rs rt imm16 => Sys2Proof.Machine.execBne rs rt imm16 s
  | .blez rs rt imm16 => Sys2Proof.Machine.execBlez rs rt imm16 s
  | .bgtz rs rt imm16 => Sys2Proof.Machine.execBgtz rs rt imm16 s
  | .addi rs rt imm16 => Sys2Proof.Machine.execAddi rs rt imm16 s
  | .addiu rs rt imm16 => Sys2Proof.Machine.execAddiu rs rt imm16 s
  | .slti rs rt imm16 => Sys2Proof.Machine.execSlti rs rt imm16 s
  | .sltiu rs rt imm16 => Sys2Proof.Machine.execSltiu rs rt imm16 s
  | .andi rs rt imm16 => Sys2Proof.Machine.execAndi rs rt imm16 s
  | .ori rs rt imm16 => Sys2Proof.Machine.execOri rs rt imm16 s
  | .xori rs rt imm16 => Sys2Proof.Machine.execXori rs rt imm16 s
  | .lui rs rt imm16 => Sys2Proof.Machine.execLui rs rt imm16 s
  | .cop1 body => Sys2Proof.Machine.execCop1 body s
  | .cop2 body => Sys2Proof.Machine.execCop2 body s
  | .beql rs rt imm16 => Sys2Proof.Machine.execBeql rs rt imm16 s
  | .bnel rs rt imm16 => Sys2Proof.Machine.execBnel rs rt imm16 s
  | .blezl rs rt imm16 => Sys2Proof.Machine.execBlezl rs rt imm16 s
  | .bgtzl rs rt imm16 => Sys2Proof.Machine.execBgtzl rs rt imm16 s
  | .daddi rs rt imm16 => Sys2Proof.Machine.execDaddi rs rt imm16 s
  | .daddiu rs rt imm16 => Sys2Proof.Machine.execDaddiu rs rt imm16 s
  | .ldl rs rt imm16 => Sys2Proof.Machine.execLdl rs rt imm16 s
  | .ldr rs rt imm16 => Sys2Proof.Machine.execLdr rs rt imm16 s
  | .lb rs rt imm16 => Sys2Proof.Machine.execLb rs rt imm16 s
  | .lh rs rt imm16 => Sys2Proof.Machine.execLh rs rt imm16 s
  | .lwl rs rt imm16 => Sys2Proof.Machine.execLwl rs rt imm16 s
  | .lw rs rt imm16 => Sys2Proof.Machine.execLw rs rt imm16 s
  | .lbu rs rt imm16 => Sys2Proof.Machine.execLbu rs rt imm16 s
  | .lhu rs rt imm16 => Sys2Proof.Machine.execLhu rs rt imm16 s
  | .lwr rs rt imm16 => Sys2Proof.Machine.execLwr rs rt imm16 s
  | .lwu rs rt imm16 => Sys2Proof.Machine.execLwu rs rt imm16 s
  | .sb rs rt imm16 => Sys2Proof.Machine.execSb rs rt imm16 s
  | .sh rs rt imm16 => Sys2Proof.Machine.execSh rs rt imm16 s
  | .swl rs rt imm16 => Sys2Proof.Machine.execSwl rs rt imm16 s
  | .sw rs rt imm16 => Sys2Proof.Machine.execSw rs rt imm16 s
  | .sdl rs rt imm16 => Sys2Proof.Machine.execSdl rs rt imm16 s
  | .sdr rs rt imm16 => Sys2Proof.Machine.execSdr rs rt imm16 s
  | .swr rs rt imm16 => Sys2Proof.Machine.execSwr rs rt imm16 s
  | .cache _ _ _ => Sys2Proof.Machine.execCache s
  | .ll rs rt imm16 => Sys2Proof.Machine.execLl rs rt imm16 s
  | .lwc1 rs rt imm16 => Sys2Proof.Machine.execLwc1 rs rt imm16 s
  | .lwc2 rs rt imm16 => Sys2Proof.Machine.execLwc2 rs rt imm16 s
  | .lld rs rt imm16 => Sys2Proof.Machine.execLld rs rt imm16 s
  | .ldc1 rs rt imm16 => Sys2Proof.Machine.execLdc1 rs rt imm16 s
  | .ldc2 rs rt imm16 => Sys2Proof.Machine.execLdc2 rs rt imm16 s
  | .ld rs rt imm16 => Sys2Proof.Machine.execLd rs rt imm16 s
  | .sc rs rt imm16 => Sys2Proof.Machine.execSc rs rt imm16 s
  | .swc1 rs rt imm16 => Sys2Proof.Machine.execSwc1 rs rt imm16 s
  | .swc2 rs rt imm16 => Sys2Proof.Machine.execSwc2 rs rt imm16 s
  | .scd rs rt imm16 => Sys2Proof.Machine.execScd rs rt imm16 s
  | .sdc1 rs rt imm16 => Sys2Proof.Machine.execSdc1 rs rt imm16 s
  | .sdc2 rs rt imm16 => Sys2Proof.Machine.execSdc2 rs rt imm16 s
  | .sd rs rt imm16 => Sys2Proof.Machine.execSd rs rt imm16 s
  -- Rows of the SPECIAL table (R68), by funct.
  | .sll _ rt rd sa => Sys2Proof.Machine.execSll rt rd sa s
  | .srl _ rt rd sa => Sys2Proof.Machine.execSrl rt rd sa s
  | .sra _ rt rd sa => Sys2Proof.Machine.execSra rt rd sa s
  | .sllv rs rt rd _ => Sys2Proof.Machine.execSllv rs rt rd s
  | .srlv rs rt rd _ => Sys2Proof.Machine.execSrlv rs rt rd s
  | .srav rs rt rd _ => Sys2Proof.Machine.execSrav rs rt rd s
  | .jr rs rt rd sa => Sys2Proof.Machine.execJr rs rt rd sa s
  | .jalr rs rt rd sa => Sys2Proof.Machine.execJalr rs rt rd sa s
  | .syscall code => Sys2Proof.Machine.execSyscall code s
  | .brk code => Sys2Proof.Machine.execBreak code s
  | .sync code => Sys2Proof.Machine.execSync code s
  | .mfhi _ _ rd _ => Sys2Proof.Machine.execMfhi rd s
  | .mthi rs rt rd sa => Sys2Proof.Machine.execMthi rs rt rd sa s
  | .mflo _ _ rd _ => Sys2Proof.Machine.execMflo rd s
  | .mtlo rs rt rd sa => Sys2Proof.Machine.execMtlo rs rt rd sa s
  | .dsllv rs rt rd sa => Sys2Proof.Machine.execDsllv rs rt rd sa s
  | .dsrlv rs rt rd sa => Sys2Proof.Machine.execDsrlv rs rt rd sa s
  | .dsrav rs rt rd sa => Sys2Proof.Machine.execDsrav rs rt rd sa s
  | .mult rs rt _ _ => Sys2Proof.Machine.execMult rs rt s
  | .multu rs rt _ _ => Sys2Proof.Machine.execMultu rs rt s
  | .div rs rt rd sa => Sys2Proof.Machine.execDiv rs rt rd sa s
  | .divu rs rt rd sa => Sys2Proof.Machine.execDivu rs rt rd sa s
  | .dmult rs rt rd sa => Sys2Proof.Machine.execDmult rs rt rd sa s
  | .dmultu rs rt rd sa => Sys2Proof.Machine.execDmultu rs rt rd sa s
  | .ddiv rs rt rd sa => Sys2Proof.Machine.execDdiv rs rt rd sa s
  | .ddivu rs rt rd sa => Sys2Proof.Machine.execDdivu rs rt rd sa s
  | .add rs rt rd _ => Sys2Proof.Machine.execAdd rs rt rd s
  | .addu rs rt rd _ => Sys2Proof.Machine.execAddu rs rt rd s
  | .sub rs rt rd _ => Sys2Proof.Machine.execSub rs rt rd s
  | .subu rs rt rd _ => Sys2Proof.Machine.execSubu rs rt rd s
  | .and rs rt rd _ => Sys2Proof.Machine.execAnd rs rt rd s
  | .or rs rt rd _ => Sys2Proof.Machine.execOr rs rt rd s
  | .xor rs rt rd _ => Sys2Proof.Machine.execXor rs rt rd s
  | .nor rs rt rd sa => Sys2Proof.Machine.execNor rs rt rd sa s
  | .slt rs rt rd _ => Sys2Proof.Machine.execSlt rs rt rd s
  | .sltu rs rt rd _ => Sys2Proof.Machine.execSltu rs rt rd s
  | .dadd rs rt rd sa => Sys2Proof.Machine.execDadd rs rt rd sa s
  | .daddu rs rt rd sa => Sys2Proof.Machine.execDaddu rs rt rd sa s
  | .dsub rs rt rd sa => Sys2Proof.Machine.execDsub rs rt rd sa s
  | .dsubu rs rt rd sa => Sys2Proof.Machine.execDsubu rs rt rd sa s
  | .tge rs rt rd sa => Sys2Proof.Machine.execTge rs rt rd sa s
  | .tgeu rs rt rd sa => Sys2Proof.Machine.execTgeu rs rt rd sa s
  | .tlt rs rt rd sa => Sys2Proof.Machine.execTlt rs rt rd sa s
  | .tltu rs rt rd sa => Sys2Proof.Machine.execTltu rs rt rd sa s
  | .teq rs rt rd sa => Sys2Proof.Machine.execTeq rs rt rd sa s
  | .tne rs rt rd sa => Sys2Proof.Machine.execTne rs rt rd sa s
  | .dsll rs rt rd sa => Sys2Proof.Machine.execDsll rs rt rd sa s
  | .dsrl rs rt rd sa => Sys2Proof.Machine.execDsrl rs rt rd sa s
  | .dsra rs rt rd sa => Sys2Proof.Machine.execDsra rs rt rd sa s
  | .dsll32 rs rt rd sa => Sys2Proof.Machine.execDsll32 rs rt rd sa s
  | .dsrl32 rs rt rd sa => Sys2Proof.Machine.execDsrl32 rs rt rd sa s
  | .dsra32 rs rt rd sa => Sys2Proof.Machine.execDsra32 rs rt rd sa s
  -- Rows of the REGIMM table (R69), by the rt field.
  | .bltz rs imm16 => Sys2Proof.Machine.execBltz rs imm16 s
  | .bgez rs imm16 => Sys2Proof.Machine.execBgez rs imm16 s
  | .bltzl rs imm16 => Sys2Proof.Machine.execBltzl rs imm16 s
  | .bgezl rs imm16 => Sys2Proof.Machine.execBgezl rs imm16 s
  | .tgei rs imm16 => Sys2Proof.Machine.execTgei rs imm16 s
  | .tgeiu rs imm16 => Sys2Proof.Machine.execTgeiu rs imm16 s
  | .tlti rs imm16 => Sys2Proof.Machine.execTlti rs imm16 s
  | .tltiu rs imm16 => Sys2Proof.Machine.execTltiu rs imm16 s
  | .teqi rs imm16 => Sys2Proof.Machine.execTeqi rs imm16 s
  | .tnei rs imm16 => Sys2Proof.Machine.execTnei rs imm16 s
  | .bltzal rs imm16 => Sys2Proof.Machine.execBltzal rs imm16 s
  | .bgezal rs imm16 => Sys2Proof.Machine.execBgezal rs imm16 s
  | .bltzall rs imm16 => Sys2Proof.Machine.execBltzall rs imm16 s
  | .bgezall rs imm16 => Sys2Proof.Machine.execBgezall rs imm16 s
  -- Rows of the coprocessor-0 table (R70), by the rs field.
  | .mfc0 rt rd _ => Sys2Proof.Machine.execMfc0 rt rd s
  | .dmfc0 rt rd low11 => Sys2Proof.Machine.execDmfc0 rt rd low11 s
  | .mtc0 rt rd low11 => Sys2Proof.Machine.execMtc0 rt rd low11 s
  | .dmtc0 rt rd low11 => Sys2Proof.Machine.execDmtc0 rt rd low11 s
  | .bc0 rt imm16 => Sys2Proof.Machine.execBc0 rt imm16 s
  -- The named words of the CO group, rs at least 16 (R70), by funct.
  | .tlbr co => Sys2Proof.Machine.execTlbr co s
  | .tlbwi co => Sys2Proof.Machine.execTlbwi co s
  | .tlbwr co => Sys2Proof.Machine.execTlbwr co s
  | .tlbp co => Sys2Proof.Machine.execTlbp co s
  | .eret co => Sys2Proof.Machine.execEret co s

end Sys2Proof.Machine
end

