-- ==== Sys2Proof/Machine/Loop.lean ====
section
/-! DEFINITION. Loop: one pass of the fetch-execute loop (40_step_and_dispatch.md R90), from the fetch to the end of the step. -/

namespace Sys2Proof.Machine

/-- The fetch, `w <- MemRead(p, 4)` (40_step_and_dispatch.md R91, 20_memory.md R44): a fault on it has no instruction word to
report (60_exceptions.md R283). -/
def fetch (s : State) : Access Word := s.memReadWord none s.pc

/-- `Execute(Dispatch(w), w, p)` and the end of the step (40_step_and_dispatch.md R92): a RESERVED word raises
`UnimplementedOperation` (30_encoding.md R71). -/
def dispatchWord (w : Word) (s : State) : Outcome :=
  match decode w with
  | .ok i => exec i s
  | .error _ => raiseUnimplemented w s

/-- `Step()` (40_step_and_dispatch.md R90). -/
def loopPass (s : State) : Outcome :=
  match fetch s with
  | .done w s1 => dispatchWord w s1
  | .faulted s1 => .next s1

/-- One turn of the loop of `run`: `halt` is read, and only a core that is not halted makes a pass (40_step_and_dispatch.md
R101). A halted core does nothing until the host acts (60_exceptions.md R295; log 8). -/
def loopTurn (s : State) : Outcome := if s.halt then .next s else loopPass s

/-- `s` with the word of an instruction stored where the next pass fetches, `FlatMem` answering, and the core not halted, as the
`run` or `step` transaction that would make the pass leaves it (40_step_and_dispatch.md R101; log 9). -/
def placeFetchWord (s : State) (w : Word) : State := { s with mem := s.mem.writeWord s.pc w, answers := [], halt := false }

end Sys2Proof.Machine
end

