-- ==== Sys2Proof/Machine/Step.lean ====
section
/-! DEFINITION. Step: one step of the machine, and how a single instruction is placed where it is fetched next. -/

namespace Sys2Proof.Machine

/-- One step: one turn of the fetch-execute loop (40_step_and_dispatch.md R90, R101). -/
def step (s : State) : Host.Outcome State Fault Refusal := loopTurn s

/-- `s` with the instruction whose bits are `w`, numbered as the opcode table numbers them, placed where `step` fetches its next
instruction: the program load of 70_reset_and_hazards.md R302 (log 9). Every bit from `nbits` on is zero. -/
def State.withFetchWord (s : State) (nbits w : Nat) : State := placeFetchWord s (BitVec.ofNat 32 (w % 2 ^ nbits))

end Sys2Proof.Machine
end

