-- ==== Sys2Proof/Machine/HostPort.lean ====
section
/-! DEFINITION. HostPort: the transactions of the host control port (40_step_and_dispatch.md section 4), and the host's change of
the memory between them (60_exceptions.md R289). The host has no move that writes a register, and inside a run no move but the halt
request (10_state.md R26). -/

namespace Sys2Proof.Machine

/-- The host's halt request: `halt <- 1`, no diagnostic (40_step_and_dispatch.md R104). -/
def State.requestHalt (s : State) : State := { s with halt := true }

/-- One display-refresh pulse (40_step_and_dispatch.md R105). -/
def State.pulseRefresh (s : State) : State := { s with out := { s.out with refreshPulses := s.out.refreshPulses + 1 } }

/-- The loop of `run`: at most `n` steps while `halt` = 0. `request` says at which boundary, counted in steps from here, a halt
request arrives, if one does; it is looked at before the next step (40_step_and_dispatch.md R101, R104; log 7). -/
def runLoop : Nat → Option Nat → State → Outcome
  | 0, request, s => .next (if request = some 0 then s.requestHalt else s)
  | n + 1, request, s =>
    if request = some 0 then .next s.requestHalt
    else if s.halt then .next s
    else
      match step s with
      | .next t => runLoop n (request.map fun k => k - 1) t
      | .fault r => .fault r
      | .refused r => .refused r

/-- `run(count)`: clear `halt`, loop, then exactly one refresh pulse (40_step_and_dispatch.md R101). -/
def hostRun (count : Nat) (request : Option Nat) (s : State) : Outcome :=
  match runLoop count request { s with halt := false } with
  | .next t => .next t.pulseRefresh
  | .fault r => .fault r
  | .refused r => .refused r

/-- `step()`: exactly one instruction, equivalent to `run(1)` (40_step_and_dispatch.md R100). -/
def hostStep (s : State) : Outcome := hostRun 1 none s

/-- `reset()`: zero everything but `halt` (70_reset_and_hazards.md R300, 10_state.md R25). Memory, the parameters and what has
been sent out are not touched (20_memory.md R47). -/
def hostReset (s : State) : State :=
  { s with
    x := Vector.replicate 32 0
    c0 := Vector.replicate 32 0
    hi := 0
    lo := 0
    pc := 0
    delayPC := 0
    opsExecuted := 0 }

/-- The host writes one byte behind the port, outside a run (60_exceptions.md R289). No call goes out on the port, and the write is
an intervening one, so R56 binds the byte no longer (20_memory.md R56; log 12). -/
def State.changeByte (s : State) (a : Word) (v : Byte) : State :=
  { s with mem := s.mem.write a.toNat v, settled := s.settled.filter fun b => decide (a ≠ b) }

/-- The host changes the memory, outside a run, "through whatever access the platform gives it to `Mem`" (60_exceptions.md R289): the
bytes listed, in their order. Loading a program before a run is one such change (70_reset_and_hazards.md R302; log 12). -/
def State.changeMemory (s : State) : List (Word × Byte) → State
  | [] => s
  | (a, v) :: bytes => (s.changeByte a v).changeMemory bytes

/-- The moves of the host between transactions. A state read (40_step_and_dispatch.md R103) changes nothing, so it is no move. -/
inductive HostMove where
  | step
  | run (count : Nat) (request : Option Nat)
  | reset
  | requestHalt
  | changeMemory (bytes : List (Word × Byte))
  deriving DecidableEq, Repr

/-- What a move does. -/
def hostMove : HostMove → State → Outcome
  | .step, s => hostStep s
  | .run count request, s => hostRun count request s
  | .reset, s => .next (hostReset s)
  | .requestHalt, s => .next s.requestHalt
  | .changeMemory bytes, s => .next (s.changeMemory bytes)

end Sys2Proof.Machine
end

