-- ==== Sys2Proof/Safety.lean ====
section
/-! DEFINITION. Safety: the terms that claims use: arithmetic results written with integers, the state after an instruction that
only advances, the shapes of instructions and what each shape may change, invariants. No meaning uses this file. -/

namespace Sys2Proof.Machine

/-! ## Values -/

/-- The low half of a register as a number from 0 to 2^32 - 1 (00_scope.md R5). -/
def low (v : DWord) : Int := v.toNat % 2 ^ 32

/-- The low half of a register read as a signed 32-bit number (00_scope.md R5). -/
def lowSigned (v : DWord) : Int := (low v).bmod (2 ^ 32)

/-- The 64-bit value whose low half is `n` mod 2^32 and whose high half is 32 copies of bit 31 of the low half (00_scope.md
R6). -/
def signed32Result (n : Int) : DWord := BitVec.ofInt 64 (n.bmod (2 ^ 32))

/-- A 64-bit value is canonical when it equals `sext_64` of its own low half (10_state.md R14). -/
def canonicalValue (v : DWord) : Prop := v = (v.extractLsb' 0 32).signExtend 64

/-- Every general register, `HI` and `LO` is canonical (10_state.md R14). -/
def State.canonical (s : State) : Prop := (∀ r : RegId, canonicalValue (s.getX r)) ∧ canonicalValue s.hi ∧ canonicalValue s.lo

/-! ## Steps -/

/-- The state after an instruction that neither schedules nor annuls has left `s`: the pending target is applied if there is one,
else `pc` advances by 4, and the instruction is counted (40_step_and_dispatch.md R93, R94). -/
def State.advanced (s : State) : State :=
  { s with
    pc := if s.delayPC = 0 then s.pc + 4 else s.delayPC
    delayPC := 0
    opsExecuted := s.opsExecuted + 1 }

/-- The state after an instruction outside a delay slot has left `s` and scheduled `t` (40_step_and_dispatch.md R93, R95). -/
def State.scheduled (s : State) (t : Word) : State :=
  { s with pc := s.pc + 4, delayPC := t, opsExecuted := s.opsExecuted + 1 }

/-- The state after a likely branch outside a delay slot has annulled its slot (40_step_and_dispatch.md R93, R96). -/
def State.annulled (s : State) : State := { s with pc := s.pc + 8, opsExecuted := s.opsExecuted + 1 }

/-- The dispatch rule of a row of the opcode table: every word that matches is decoded as `f` of it (30_encoding.md R79). -/
def Selects (mask pattern : Word) (f : Word → Instr) : Prop := ∀ w : Word, w &&& mask = pattern → decode w = .ok (f w)

/-- The collaborator answers the fetch of the next pass with the word `w` (20_memory.md R44). -/
def State.fetches (s : State) (w : Word) : Prop :=
  s.faults (.readWord s.pc) = false ∧ s.answeredWord s.pc = w

/-! ## Shapes of instructions -/

/-- What an instruction may write, beside `pc`, `delayPC` and `opsExecuted` (from the operand clauses of its rule). -/
inductive Shape where
  /-- One general register. -/
  | register (dest : RegId)
  /-- `HI` and `LO`. -/
  | accumulators
  /-- One general register, from memory. -/
  | load (dest : RegId)
  /-- Memory. -/
  | store
  /-- Only the pending target, or a skip. -/
  | transfer
  /-- Only the pending target, or a skip; a false condition annuls the slot. -/
  | likelyTransfer
  /-- The link register and the pending target. -/
  | linkTransfer
  /-- One control register. -/
  | control (dest : RegId)
  /-- Nothing. -/
  | nothing
  /-- Raises `UnimplementedOperation` on every operand. -/
  | faults
  deriving DecidableEq, Repr

/-- The shape of an instruction, by its rule. -/
def shapeOf : Instr → Shape
  | .j _ => .transfer
  | .jal _ => .linkTransfer
  | .beq _ _ _ => .transfer
  | .bne _ _ _ => .transfer
  | .blez _ _ _ => .transfer
  | .bgtz _ _ _ => .transfer
  | .addi _ rt _ => .register rt
  | .addiu _ rt _ => .register rt
  | .slti _ rt _ => .register rt
  | .sltiu _ rt _ => .register rt
  | .andi _ rt _ => .register rt
  | .ori _ rt _ => .register rt
  | .xori _ rt _ => .register rt
  | .lui .. => .faults
  | .cop1 .. => .faults
  | .cop2 .. => .faults
  | .beql _ _ _ => .likelyTransfer
  | .bnel _ _ _ => .likelyTransfer
  | .blezl _ _ _ => .likelyTransfer
  | .bgtzl _ _ _ => .likelyTransfer
  | .daddi .. => .faults
  | .daddiu .. => .faults
  | .ldl .. => .faults
  | .ldr .. => .faults
  | .lb _ rt _ => .load rt
  | .lh .. => .faults
  | .lwl .. => .faults
  | .lw _ rt _ => .load rt
  | .lbu _ rt _ => .load rt
  | .lhu .. => .faults
  | .lwr .. => .faults
  | .lwu .. => .faults
  | .sb _ _ _ => .store
  | .sh .. => .faults
  | .swl .. => .faults
  | .sw _ _ _ => .store
  | .sdl .. => .faults
  | .sdr .. => .faults
  | .swr .. => .faults
  | .cache _ _ _ => .nothing
  | .ll .. => .faults
  | .lwc1 .. => .faults
  | .lwc2 .. => .faults
  | .lld .. => .faults
  | .ldc1 .. => .faults
  | .ldc2 .. => .faults
  | .ld .. => .faults
  | .sc .. => .faults
  | .swc1 .. => .faults
  | .swc2 .. => .faults
  | .scd .. => .faults
  | .sdc1 .. => .faults
  | .sdc2 .. => .faults
  | .sd .. => .faults
  | .sll _ _ rd _ => .register rd
  | .srl _ _ rd _ => .register rd
  | .sra _ _ rd _ => .register rd
  | .sllv _ _ rd _ => .register rd
  | .srlv _ _ rd _ => .register rd
  | .srav _ _ rd _ => .register rd
  | .jr _ _ _ _ => .transfer
  | .jalr .. => .faults
  | .syscall .. => .faults
  | .brk .. => .faults
  | .sync .. => .faults
  | .mfhi _ _ rd _ => .register rd
  | .mthi .. => .faults
  | .mflo _ _ rd _ => .register rd
  | .mtlo .. => .faults
  | .dsllv .. => .faults
  | .dsrlv .. => .faults
  | .dsrav .. => .faults
  | .mult _ _ _ _ => .accumulators
  | .multu _ _ _ _ => .accumulators
  | .div .. => .faults
  | .divu .. => .faults
  | .dmult .. => .faults
  | .dmultu .. => .faults
  | .ddiv .. => .faults
  | .ddivu .. => .faults
  | .add _ _ rd _ => .register rd
  | .addu _ _ rd _ => .register rd
  | .sub _ _ rd _ => .register rd
  | .subu _ _ rd _ => .register rd
  | .and _ _ rd _ => .register rd
  | .or _ _ rd _ => .register rd
  | .xor _ _ rd _ => .register rd
  | .nor .. => .faults
  | .slt _ _ rd _ => .register rd
  | .sltu _ _ rd _ => .register rd
  | .dadd .. => .faults
  | .daddu .. => .faults
  | .dsub .. => .faults
  | .dsubu .. => .faults
  | .tge .. => .faults
  | .tgeu .. => .faults
  | .tlt .. => .faults
  | .tltu .. => .faults
  | .teq .. => .faults
  | .tne .. => .faults
  | .dsll .. => .faults
  | .dsrl .. => .faults
  | .dsra .. => .faults
  | .dsll32 .. => .faults
  | .dsrl32 .. => .faults
  | .dsra32 .. => .faults
  | .bltz _ _ => .transfer
  | .bgez _ _ => .transfer
  | .bltzl _ _ => .likelyTransfer
  | .bgezl _ _ => .likelyTransfer
  | .tgei .. => .faults
  | .tgeiu .. => .faults
  | .tlti .. => .faults
  | .tltiu .. => .faults
  | .teqi .. => .faults
  | .tnei .. => .faults
  | .bltzal _ _ => .linkTransfer
  | .bgezal _ _ => .linkTransfer
  | .bltzall .. => .faults
  | .bgezall .. => .faults
  | .mfc0 rt _ _ => .register rt
  | .dmfc0 .. => .faults
  | .mtc0 _ rd _ => .control rd
  | .dmtc0 .. => .faults
  | .bc0 .. => .faults
  | .tlbr .. => .faults
  | .tlbwi .. => .faults
  | .tlbwr .. => .faults
  | .tlbp .. => .faults
  | .eret .. => .faults

/-- The keys of the bytes an instruction stores to in the state `s`: the byte or the four bytes at its effective address for
`SB` and `SW`, none for any other (44_load_store.md R184, R185). -/
def storedKeys (i : Instr) (s : State) : List Nat :=
  match i with
  | .sb rs _ imm16 => [byteKey (effectiveAddress (s.getX rs) imm16) 0]
  | .sw rs _ imm16 => (List.range 4).map (byteKey (effectiveAddress (s.getX rs) imm16))
  | _ => []

/-- Nothing but the general registers in `written`, memory, `pc`, `delayPC`, `opsExecuted`, the port (the record of calls, the
answers taken up, the bytes bound) and, if the instruction faults, `halt` and one diagnostic, differs between `s` and `t`. There are no flags
(10_state.md R23). -/
structure OnlyWrites (written : RegId → Prop) (s t : State) : Prop where
  registers : ∀ r, ¬ written r → t.getX r = s.getX r
  hi : t.hi = s.hi
  lo : t.lo = s.lo
  control : ∀ r, t.getC0 r = s.getC0 r
  params : t.params = s.params
  refresh : t.out.refreshPulses = s.out.refreshPulses
  halt : (t.halt = s.halt ∧ t.out.diagnostics = s.out.diagnostics) ∨
    (t.halt = true ∧ ∃ d, t.out.diagnostics = d :: s.out.diagnostics)

/-- Every byte of memory reads as before. -/
def SameBytes (s t : State) : Prop := ∀ k : Nat, t.mem.read k = s.mem.read k

/-- The same but for `halt`, `opsExecuted` and the record of outputs. -/
def SameButOutputs (s t : State) : Prop :=
  t = { s with halt := t.halt, opsExecuted := t.opsExecuted, out := t.out }

/-- The same but for the control registers. -/
def SameButControl (s t : State) : Prop := t = { s with c0 := t.c0 }

/-- Two outcomes are both next states that `same` relates, or both the same refusal. -/
def OutcomesAgree (same : State → State → Prop) : Outcome → Outcome → Prop
  | .next s, .next t => same s t
  | .refused q, .refused r => q = r
  | _, _ => False

/-! ## Control transfers -/

/-- The target of a branch at `p`: the address of the next instruction plus four times the signed offset, mod 2^32
(30_encoding.md R64). -/
def branchAddress (p : Word) (imm16 : BitVec 16) : Word := BitVec.ofInt 32 (p.toNat + 4 + imm16.toInt * 4)

/-- The target of a jump at `p`: the 256 MiB region of `p` and four times the field (30_encoding.md R65). -/
def jumpAddress (p : Word) (target26 : BitVec 26) : Word :=
  BitVec.ofNat 32 (p.toNat / 2 ^ 28 * 2 ^ 28 + target26.toNat * 4)

/-- The instruction `i` schedules `target` where `condition` holds, after it has made `s.pre`, outside a delay slot; the target is
refused as invalid before `delayPC` is written, and the word of `i` is reported (40_step_and_dispatch.md R95, 60_exceptions.md
R282). -/
def Schedules (i : Instr) (condition : State → Prop) (pre : State → State) (target : State → Word) : Prop :=
  ∀ s : State, condition s → s.delayPC = 0 →
    (Params.invalidTarget s.params (target s) = false → exec i s = .next ((pre s).scheduled (target s))) ∧
    (Params.invalidTarget s.params (target s) = true →
      exec i s = .next ((pre s).capture (.invalidBranchTarget (target s)) (some (encode i))))

/-- The instruction `i` only advances where `condition` fails, in a delay slot too, after it has made `s.pre` (43_branch_jump.md
R150, 40_step_and_dispatch.md R98). -/
def FallsThrough (i : Instr) (condition : State → Prop) (pre : State → State) : Prop :=
  ∀ s : State, ¬ condition s → exec i s = .next (pre s).advanced

/-- The likely branch `i` annuls its slot where `condition` fails, outside a delay slot (40_step_and_dispatch.md R96). -/
def Annuls (i : Instr) (condition : State → Prop) : Prop :=
  ∀ s : State, ¬ condition s → s.delayPC = 0 → exec i s = .next s.annulled

/-- The link write: `x[31]` holds the address of the instruction two past the branch, as a 32-bit result (43_branch_jump.md
R152). -/
def linked (s : State) : State := s.setX 31 (signed32Result (s.pc.toNat + 8))

/-- `i` raises `UnimplementedOperation` and does nothing else, in every state (60_exceptions.md R281). -/
def RaisesUnimplemented (i : Instr) : Prop :=
  ∀ s : State, exec i s = .next (s.capture .unimplementedOperation (some (encode i)))

/-! ## What the loop and the port see of an instruction -/

/-- The instruction, executed in `s`, asks the loop to skip its delay slot: a likely branch whose condition is false
(43_branch_jump.md R164 to R169). -/
def annulsSlot (i : Instr) (s : State) : Prop :=
  match i with
  | .beql rs rt _ => s.getX rs ≠ s.getX rt
  | .bnel rs rt _ => s.getX rs = s.getX rt
  | .blezl rs _ _ => 0 < (s.getX rs).toInt
  | .bgtzl rs _ _ => (s.getX rs).toInt ≤ 0
  | .bltzl rs _ => 0 ≤ (s.getX rs).toInt
  | .bgezl rs _ => (s.getX rs).toInt < 0
  | _ => False

/-- The call an instruction, executed in `s`, makes on the memory port, if it makes one (20_memory.md R45). -/
def accessOf (i : Instr) (s : State) : Option PortCall :=
  match i with
  | .lb rs _ imm16 => some (.readByte (effectiveAddress (s.getX rs) imm16))
  | .lbu rs _ imm16 => some (.readByte (effectiveAddress (s.getX rs) imm16))
  | .lw rs _ imm16 => some (.readWord (effectiveAddress (s.getX rs) imm16))
  | .sb rs rt imm16 => some (.writeByte (effectiveAddress (s.getX rs) imm16) ((s.getX rt).extractLsb' 0 8))
  | .sw rs rt imm16 => some (.writeWord (effectiveAddress (s.getX rs) imm16) (lo32 (s.getX rt)))
  | _ => none

/-- The call a step from `s` makes on the memory port after its fetch, if it makes one. -/
def secondCall (s : State) : Option PortCall :=
  if s.faults (.readWord s.pc) then none
  else
    match decode (s.answeredWord s.pc) with
    | .ok i => accessOf i s
    | .error _ => none

/-! ## The invariant of the memory -/

/-- The memory has its canonical form. -/
def State.memoryCanonical (s : State) : Prop := s.mem.wf = true

/-! ## Runs of steps -/

/-- `n` steps of the core, stopping at a refusal: the host interface's own runner. -/
def runSteps (n : Nat) (s : State) : Outcome := Host.Core.run Sys2Proof.core n s

/-- The outcome with `f` applied to its next state. -/
def mapNext (f : State → State) : Outcome → Outcome
  | .next s => .next (f s)
  | .fault r => .fault r
  | .refused r => .refused r

end Sys2Proof.Machine
end

