-- ==== Sys2Proof/Certificates/Slice0/Obligations.lean ====
section
/-! DEFINITION. Obligations: the statements about this hardware, from the numbered rules of spec/. -/

open Sys2Proof Sys2Proof.Machine

/-- Example words of the rules decode to the instructions the rules name. The numeric codes are the spec's own choice
(92_eei_decisions.md D2). -/
def Obligations.DecodesWordsOfSpec : Prop :=
  decode 0x00221820 = .ok (.add 1 2 3 0) ∧ decode 0x2022FFFF = .ok (.addi 1 2 0xFFFF) ∧
  decode 0x3022FF00 = .ok (.andi 1 2 0xFF00) ∧ decode 0x00021900 = .ok (.sll 0 2 3 4) ∧
  decode 0x2C220001 = .ok (.sltiu 1 2 1) ∧ decode 0x00220018 = .ok (.mult 1 2 0 0) ∧
  decode 0x00001812 = .ok (.mflo 0 0 3 0) ∧ decode 0x08000400 = .ok (.j 0x400) ∧
  decode 0x03E00008 = .ok (.jr 31 0 0 0) ∧ decode 0x1422FFFE = .ok (.bne 1 2 0xFFFE) ∧
  decode 0x04230003 = .ok (.bgezl 1 3) ∧ decode 0x8C22FFFC = .ok (.lw 1 2 0xFFFC) ∧
  decode 0xA0220008 = .ok (.sb 1 2 8) ∧ decode 0xBC340000 = .ok (.cache 1 20 0) ∧
  decode 0x40826000 = .ok (.mtc0 2 12 0) ∧ decode 0x42000018 = .ok (.eret 0) ∧
  decode 0x0000000D = .ok (.brk 0) ∧ decode 0x042E0001 = .ok (.tnei 1 1) ∧
  decode 0x0002193F = .ok (.dsra32 0 2 3 4) ∧ decode 0x46000000 = .ok (.cop1 0x2000000) ∧
  decode 0x70000000 = .error (.reservedPrimary 28) ∧ decode 0x00000001 = .error (.reservedSpecial 1) ∧
  decode 0x04040000 = .error (.reservedRegimm 4) ∧ decode 0x42000000 = .error (.reservedCop0 16 0)

/-- The field extraction of R61, bit by bit, on all words. -/
def Obligations.FieldsAreBitRanges : Prop :=
  ∀ (w : Word) (k : Nat),
    (opcodeOf w).getLsbD k = (decide (k < 6) && w.getLsbD (26 + k)) ∧
    (rsOf w).getLsbD k = (decide (k < 5) && w.getLsbD (21 + k)) ∧
    (rtOf w).getLsbD k = (decide (k < 5) && w.getLsbD (16 + k)) ∧
    (rdOf w).getLsbD k = (decide (k < 5) && w.getLsbD (11 + k)) ∧
    (saOf w).getLsbD k = (decide (k < 5) && w.getLsbD (6 + k)) ∧
    (functOf w).getLsbD k = (decide (k < 6) && w.getLsbD k) ∧
    (imm16Of w).getLsbD k = (decide (k < 16) && w.getLsbD k) ∧
    (target26Of w).getLsbD k = (decide (k < 26) && w.getLsbD k)

/-- No bit of an encoding is dropped, for every instruction and every operand, by words and by bytes. -/
def Obligations.DecodeOfEncode : Prop :=
  ∀ (i : Instr) (rest : List Byte), decode (encode i) = .ok i ∧ decodeBytes (encodeBytes i ++ rest) = .ok (i, rest)

/-- The other direction of the round trip: decoding loses nothing, so that the diagnostic of a fault reports the raw word.
-/
def Obligations.EncodeOfDecode : Prop :=
  ∀ (w : Word) (i : Instr), decode w = .ok i → encode i = w

/-- Dispatch by nested matches and dispatch by the rows of the table (30_encoding.md R79) are the same. The numeric codes
are the spec's own choice (92_eei_decisions.md D2). -/
def Obligations.DecodeFollowsOpcodeTable : Prop :=
  opcodeTable.length = 130 ∧
  ∀ w : Word,
    (∀ r ∈ opcodeTable, r.selects w = true → ∃ i, decode w = .ok i ∧ i.mnemonic = r.mnemonic) ∧
    (∀ i, decode w = .ok i → ∃ r ∈ opcodeTable, r.mnemonic = i.mnemonic ∧ r.selects w = true) ∧
    (∀ r ∈ opcodeTable, ∀ q ∈ opcodeTable, r.selects w = true → q.selects w = true → r = q)

/-- Every reserved slot of the four tables faults. The numeric codes are the spec's own choice (92_eei_decisions.md D2).
-/
def Obligations.ReservedWordRaisesUnimplemented : Prop :=
  ∀ (s : State) (w : Word), s.halt = false → s.fetches w →
    ((opcodeOf w).toNat ∈ [19, 28, 29, 30, 31, 51, 59] ∨
      (opcodeOf w = 0 ∧ (functOf w).toNat ∈ [1, 5, 10, 11, 14, 21, 40, 41, 53, 55, 57, 61]) ∨
      (opcodeOf w = 1 ∧ (rtOf w).toNat ∈ [4, 5, 6, 7, 13, 15, 20, 21, 22, 23, 24, 25, 26, 27, 28, 29, 30, 31]) ∨
      (opcodeOf w = 16 ∧ (rsOf w).toNat ∈ [2, 3, 6, 7, 9, 10, 11, 12, 13, 14, 15]) ∨
      (opcodeOf w = 16 ∧ 16 ≤ (rsOf w).toNat ∧ (functOf w).toNat ∉ [1, 2, 6, 8, 24])) →
    step s = .next ((s.called (.readWord s.pc)).capture .unimplementedOperation (some w))

/-- The per-instruction statements reach a run through this one. The only thing step adds is the record of the fetch call,
whose answer is taken up. -/
def Obligations.StepRunsDecodedInstruction : Prop :=
  ∀ (s : State) (w : Word) (i : Instr), s.halt = false → s.fetches w → decode w = .ok i →
    step s = exec i (s.called (.readWord s.pc))

/-- R91. The fetch writes nothing: `called` only records the call and takes up its answer (log 3). -/
def Obligations.FetchIsOneReadWord : Prop :=
  ∀ s : State, s.halt = false →
    (s.faults (.readWord s.pc) = true →
      step s = .next ((s.called (.readWord s.pc)).capture (.memoryFault s.pc) none)) ∧
    (s.faults (.readWord s.pc) = false →
      step s = dispatchWord (s.answeredWord s.pc) (s.called (.readWord s.pc)))

/-- UpdatePC (40_step_and_dispatch.md R93) over all retired steps, with the step-local annul flag (R96) read off the
instruction and the registers. The target that a transfer schedules (R95) is in the statements JumpsScheduleRegionTarget
to LinkBranchesWriteLinkAlways; that the update is performed only where the step does not fault is in FaultIsPrecise. -/
def Obligations.PcFollowsDelaySlotRule : Prop :=
  ∀ s t : State, s.halt = false → step s = .next t → t.halt = false →
    ∃ i, decode (s.answeredWord s.pc) = .ok i ∧
      (s.delayPC ≠ 0 → t.pc = s.delayPC ∧ t.delayPC = 0) ∧
      (s.delayPC = 0 → annulsSlot i s → t.pc = s.pc + 8 ∧ t.delayPC = 0) ∧
      (s.delayPC = 0 → ¬ annulsSlot i s → t.pc = s.pc + 4 ∧
        (t.delayPC = 0 ∨ shapeOf i = .transfer ∨ shapeOf i = .likelyTransfer ∨ shapeOf i = .linkTransfer))

/-- R94 over all steps. An annulled slot adds nothing, since the step of its likely branch adds one only. -/
def Obligations.CounterCountsRetiredSteps : Prop :=
  ∀ s t : State, s.halt = false → step s = .next t →
    t.opsExecuted = if t.halt then s.opsExecuted else s.opsExecuted + 1

/-- Capture (60_exceptions.md R284) and precision (R287) over all steps. What a fault leaves is the spec's decision D32.
That a store answered by a fault leaves memory unchanged is FlatMem's rule (R283), and the model's choice where another
collaborator answers (log 3). -/
def Obligations.FaultIsPrecise : Prop :=
  ∀ s t : State, s.halt = false → step s = .next t → t.halt = true →
    t.pc = s.pc ∧ t.delayPC = s.delayPC ∧ t.opsExecuted = s.opsExecuted ∧ t.hi = s.hi ∧ t.lo = s.lo ∧
    (∀ r, t.getC0 r = s.getC0 r) ∧ t.mem = s.mem ∧ t.params = s.params ∧
    t.out.refreshPulses = s.out.refreshPulses ∧
    ∃ d, t.out.diagnostics = d :: s.out.diagnostics ∧ d.address = s.pc ∧
      (s.faults (.readWord s.pc) = true → d.word = none ∧ d.kind = .memoryFault s.pc) ∧
      (s.faults (.readWord s.pc) = false → d.word = some (s.answeredWord s.pc)) ∧
      ∀ r, t.getX r = s.getX r ∨
        (r = 31 ∧ t.getX r = signed32Result (s.pc.toNat + 8) ∧ (∃ target, d.kind = .invalidBranchTarget target) ∧
          ∃ i, decode (s.answeredWord s.pc) = .ok i ∧ shapeOf i = .linkTransfer)

/-- Exactly the calls the rules name, in program order, never repeated, split or speculated (20_memory.md R41, R51). The
record the calls are read from is the model's choice (log 4), and so is the list of answers, of which each call takes up
one (log 3). -/
def Obligations.PortCallsPerStep : Prop :=
  ∀ s t : State, s.halt = false → step s = .next t →
    t.out.portCalls = (secondCall s).toList ++ .readWord s.pc :: s.out.portCalls ∧
      t.answers = s.answers.drop ((secondCall s).toList.length + 1)

/-- The canonical-form invariant of 10_state.md R14, which the spec marks as its own derivation. -/
def Obligations.StepKeepsCanonicalRegisters : Prop :=
  ∀ s t : State, s.canonical → step s = .next t → t.canonical

/-- Equal memories are equal data in every state that steps and host moves reach. What an unlisted byte reads as is the
model's choice (log 1). -/
def Obligations.StepKeepsMemoryCanonical : Prop :=
  ∀ s t : State, s.memoryCanonical →
    (step s = .next t → t.memoryCanonical) ∧ (∀ m : HostMove, hostMove m s = .next t → t.memoryCanonical)

/-- The reset values of 10_state.md R25, and that the invariants hold there. What memory holds is the model's choice (log
1), and so are the list of answers and the set of bound bytes (log 3), both empty. -/
def Obligations.StateAtCreation : Prop :=
  (∀ r, State.reset.getX r = 0) ∧ (∀ r, State.reset.getC0 r = 0) ∧ State.reset.hi = 0 ∧ State.reset.lo = 0 ∧
  State.reset.pc = 0 ∧ State.reset.delayPC = 0 ∧ State.reset.opsExecuted = 0 ∧ State.reset.halt = false ∧
  State.reset.canonical ∧ State.reset.memoryCanonical ∧ State.reset.answers = [] ∧ State.reset.settled = [] ∧
  State.reset.fetches (State.reset.mem.readWord 0)

/-- MISALIGNED_WORD, INVALID_TARGET and COP0_WRITABLE (00_scope.md R3) are fixed for a run (10_state.md R24); the fourth
parameter, Mem, is other fields of State (log 3). As for the host, what reset() zeroes does not include them
(70_reset_and_hazards.md R300). That no host move changes them is the model's choice (log 10): 60_exceptions.md R289
speaks of parameters that may have changed between runs. -/
def Obligations.ParametersNeverChange : Prop :=
  ∀ s t : State,
    (step s = .next t → t.params = s.params ∧ t.out.refreshPulses = s.out.refreshPulses) ∧
    (∀ m : HostMove, hostMove m s = .next t → t.params = s.params)

/-- No instruction can observe halt (10_state.md R21, R23), the counter (R22) or an output event (R24). The record of
outputs is the model's own (log 4). -/
def Obligations.OutputsHaltCounterNotRead : Prop :=
  ∀ (i : Instr) (s t : State), SameButOutputs s t → OutcomesAgree SameButOutputs (exec i s) (exec i t)

/-- No bit of any control register has any effect on any rule (10_state.md R16, decisions D25, D26): no mode, no enable,
no privilege. -/
def Obligations.ControlRegistersReadOnlyByMfc0 : Prop :=
  ∀ (i : Instr) (s t : State), (∀ rt rd low11, i ≠ .mfc0 rt rd low11) → SameButControl s t →
    OutcomesAgree SameButControl (exec i s) (exec i t)

/-- 10_state.md R12 by decision D3: GPR 0 is an ordinary register. -/
def Obligations.GprZeroKeepsWhatIsWritten : Prop :=
  (∀ (rs : RegId) (imm16 : BitVec 16) (s : State),
    ∃ t, exec (.addiu rs 0 imm16) s = .next t ∧ t.getX 0 = signed32Result (low (s.getX rs) + imm16.toInt)) ∧
  ∀ s t : State, s.getX 0 = 0 → step s = .next t →
    t.getX 0 = 0 ∨ ∃ i, decode (s.answeredWord s.pc) = .ok i ∧ (shapeOf i = .register 0 ∨ shapeOf i = .load 0)

/-- The while loop of R101 is n steps of the core. That a step of a halted core changes nothing is the model's reading
(log 8). -/
def Obligations.RunIsStepsThenRefresh : Prop :=
  (∀ s : State, s.halt = true → step s = .next s) ∧
  ∀ (n : Nat) (s : State),
    hostRun n none s = mapNext State.pulseRefresh (runSteps n { s with halt := false })

/-- R100 and R105. -/
def Obligations.OneRefreshPerTransaction : Prop :=
  (∀ s : State,
    hostStep s = hostRun 1 none s ∧ hostStep s = mapNext State.pulseRefresh (step { s with halt := false })) ∧
  ∀ (n : Nat) (request : Option Nat) (s t : State),
    hostRun n request s = .next t → t.out.refreshPulses = s.out.refreshPulses + 1

/-- 40_step_and_dispatch.md R104, for every boundary at which the request may arrive. The model's readings: the request is
an argument of the run, sets halt where k = n and has no effect where k > n (log 7); a step of a halted core changes
nothing (log 8). -/
def Obligations.HaltRequestStopsAtBoundary : Prop :=
  (∀ (n k : Nat) (s : State),
    runLoop n (some k) s = if k ≤ n then mapNext State.requestHalt (runSteps k s) else runSteps n s) ∧
  ∀ (n : Nat) (request : Option Nat) (s : State),
    s.requestHalt = { s with halt := true } ∧ hostRun n request s.requestHalt = hostRun n request s

/-- R102 and R47. The clause on halt is the spec's decision (92_eei_decisions.md D28). -/
def Obligations.ResetTransactionZeroes : Prop :=
  ∀ s : State, hostMove .reset s = .next (hostReset s) ∧
    (∀ r, (hostReset s).getX r = 0) ∧ (∀ r, (hostReset s).getC0 r = 0) ∧ (hostReset s).hi = 0 ∧ (hostReset s).lo = 0 ∧
    (hostReset s).pc = 0 ∧ (hostReset s).delayPC = 0 ∧ (hostReset s).opsExecuted = 0 ∧
    (hostReset s).halt = s.halt ∧ (hostReset s).mem = s.mem ∧ (hostReset s).answers = s.answers ∧ (hostReset s).settled = s.settled ∧
    (hostReset s).params = s.params ∧ (hostReset s).out = s.out

/-- R111 to R116, completion and frame included: the next state is given whole. The numeric codes are the spec's own
choice (92_eei_decisions.md D2). -/
def Obligations.AddSubtractLowHalves : Prop :=
  Selects 0xFC00003F 0x00000020 (fun w => .add (rsOf w) (rtOf w) (rdOf w) (saOf w)) ∧
  Selects 0xFC00003F 0x00000021 (fun w => .addu (rsOf w) (rtOf w) (rdOf w) (saOf w)) ∧
  Selects 0xFC00003F 0x00000022 (fun w => .sub (rsOf w) (rtOf w) (rdOf w) (saOf w)) ∧
  Selects 0xFC00003F 0x00000023 (fun w => .subu (rsOf w) (rtOf w) (rdOf w) (saOf w)) ∧
  Selects 0xFC000000 0x20000000 (fun w => .addi (rsOf w) (rtOf w) (imm16Of w)) ∧
  Selects 0xFC000000 0x24000000 (fun w => .addiu (rsOf w) (rtOf w) (imm16Of w)) ∧
  ∀ (rs rt rd : RegId) (sa : BitVec 5) (imm16 : BitVec 16) (s : State),
    exec (.add rs rt rd sa) s = .next (s.setX rd (signed32Result (low (s.getX rs) + low (s.getX rt)))).advanced ∧
    exec (.addu rs rt rd sa) s = .next (s.setX rd (signed32Result (low (s.getX rs) + low (s.getX rt)))).advanced ∧
    exec (.sub rs rt rd sa) s = .next (s.setX rd (signed32Result (low (s.getX rs) - low (s.getX rt)))).advanced ∧
    exec (.subu rs rt rd sa) s = .next (s.setX rd (signed32Result (low (s.getX rs) - low (s.getX rt)))).advanced ∧
    exec (.addi rs rt imm16) s = .next (s.setX rt (signed32Result (low (s.getX rs) + imm16.toInt))).advanced ∧
    exec (.addiu rs rt imm16) s = .next (s.setX rt (signed32Result (low (s.getX rs) + imm16.toInt))).advanced

/-- R117 to R122. The numeric codes are the spec's own choice (92_eei_decisions.md D2). -/
def Obligations.LogicalOnAllBits : Prop :=
  Selects 0xFC00003F 0x00000024 (fun w => .and (rsOf w) (rtOf w) (rdOf w) (saOf w)) ∧
  Selects 0xFC00003F 0x00000025 (fun w => .or (rsOf w) (rtOf w) (rdOf w) (saOf w)) ∧
  Selects 0xFC00003F 0x00000026 (fun w => .xor (rsOf w) (rtOf w) (rdOf w) (saOf w)) ∧
  Selects 0xFC000000 0x30000000 (fun w => .andi (rsOf w) (rtOf w) (imm16Of w)) ∧
  Selects 0xFC000000 0x34000000 (fun w => .ori (rsOf w) (rtOf w) (imm16Of w)) ∧
  Selects 0xFC000000 0x38000000 (fun w => .xori (rsOf w) (rtOf w) (imm16Of w)) ∧
  ∀ (rs rt rd : RegId) (sa : BitVec 5) (imm16 : BitVec 16) (s : State),
    exec (.and rs rt rd sa) s = .next (s.setX rd (s.getX rs &&& s.getX rt)).advanced ∧
    exec (.or rs rt rd sa) s = .next (s.setX rd (s.getX rs ||| s.getX rt)).advanced ∧
    exec (.xor rs rt rd sa) s = .next (s.setX rd (s.getX rs ^^^ s.getX rt)).advanced ∧
    exec (.andi rs rt imm16) s = .next (s.setX rt (s.getX rs &&& BitVec.ofNat 64 imm16.toNat)).advanced ∧
    exec (.ori rs rt imm16) s = .next (s.setX rt (s.getX rs ||| BitVec.ofNat 64 imm16.toNat)).advanced ∧
    exec (.xori rs rt imm16) s = .next (s.setX rt (s.getX rs ^^^ BitVec.ofNat 64 imm16.toNat)).advanced

/-- R123 to R128. The numeric codes are the spec's own choice (92_eei_decisions.md D2). -/
def Obligations.ShiftsOfLowHalf : Prop :=
  Selects 0xFC00003F 0x00000000 (fun w => .sll (rsOf w) (rtOf w) (rdOf w) (saOf w)) ∧
  Selects 0xFC00003F 0x00000002 (fun w => .srl (rsOf w) (rtOf w) (rdOf w) (saOf w)) ∧
  Selects 0xFC00003F 0x00000003 (fun w => .sra (rsOf w) (rtOf w) (rdOf w) (saOf w)) ∧
  Selects 0xFC00003F 0x00000004 (fun w => .sllv (rsOf w) (rtOf w) (rdOf w) (saOf w)) ∧
  Selects 0xFC00003F 0x00000006 (fun w => .srlv (rsOf w) (rtOf w) (rdOf w) (saOf w)) ∧
  Selects 0xFC00003F 0x00000007 (fun w => .srav (rsOf w) (rtOf w) (rdOf w) (saOf w)) ∧
  ∀ (rs rt rd : RegId) (sa : BitVec 5) (s : State),
    exec (.sll rs rt rd sa) s = .next (s.setX rd (signed32Result (low (s.getX rt) * 2 ^ sa.toNat))).advanced ∧
    exec (.srl rs rt rd sa) s = .next (s.setX rd (signed32Result (low (s.getX rt) / 2 ^ sa.toNat))).advanced ∧
    exec (.sra rs rt rd sa) s = .next (s.setX rd (signed32Result (lowSigned (s.getX rt) / 2 ^ sa.toNat))).advanced ∧
    exec (.sllv rs rt rd sa) s = .next (s.setX rd (signed32Result (low (s.getX rt) * 2 ^ ((s.getX rs).toNat % 32)))).advanced ∧
    exec (.srlv rs rt rd sa) s = .next (s.setX rd (signed32Result (low (s.getX rt) / 2 ^ ((s.getX rs).toNat % 32)))).advanced ∧
    exec (.srav rs rt rd sa) s =
      .next (s.setX rd (signed32Result (lowSigned (s.getX rt) / 2 ^ ((s.getX rs).toNat % 32)))).advanced

/-- R129 to R131; SLTU compares signed, as the source orders kept (R130). The numeric codes are the spec's own choice
(92_eei_decisions.md D2). -/
def Obligations.SetOnLessThanSigned : Prop :=
  Selects 0xFC00003F 0x0000002A (fun w => .slt (rsOf w) (rtOf w) (rdOf w) (saOf w)) ∧
  Selects 0xFC00003F 0x0000002B (fun w => .sltu (rsOf w) (rtOf w) (rdOf w) (saOf w)) ∧
  Selects 0xFC000000 0x28000000 (fun w => .slti (rsOf w) (rtOf w) (imm16Of w)) ∧
  ∀ (rs rt rd : RegId) (sa : BitVec 5) (imm16 : BitVec 16) (s : State),
    exec (.slt rs rt rd sa) s = .next (s.setX rd (if (s.getX rs).toInt < (s.getX rt).toInt then 1 else 0)).advanced ∧
    exec (.sltu rs rt rd sa) s = .next (s.setX rd (if (s.getX rs).toInt < (s.getX rt).toInt then 1 else 0)).advanced ∧
    exec (.slti rs rt imm16) s = .next (s.setX rt (if (s.getX rs).toInt < imm16.toInt then 1 else 0)).advanced

/-- 41_alu.md R132 by decision D8. -/
def Obligations.SltiuComparesSigned : Prop :=
  Selects 0xFC000000 0x2C000000 (fun w => .sltiu (rsOf w) (rtOf w) (imm16Of w)) ∧
  ∀ (rs rt : RegId) (imm16 : BitVec 16) (s : State),
    exec (.sltiu rs rt imm16) s = .next (s.setX rt (if (s.getX rs).toInt < imm16.toInt then 1 else 0)).advanced ∧
    exec (.sltiu rs rt imm16) s = exec (.slti rs rt imm16) s

/-- R141 and R142: the product as an exact integer; MULTU is signed, as the source orders kept. The numeric codes are the
spec's own choice (92_eei_decisions.md D2). -/
def Obligations.MultiplySignedIntoHiLo : Prop :=
  Selects 0xFC00003F 0x00000018 (fun w => .mult (rsOf w) (rtOf w) (rdOf w) (saOf w)) ∧
  Selects 0xFC00003F 0x00000019 (fun w => .multu (rsOf w) (rtOf w) (rdOf w) (saOf w)) ∧
  ∀ (rs rt rd : RegId) (sa : BitVec 5) (s : State),
    exec (.mult rs rt rd sa) s =
      .next (s.setHiLo (signed32Result (lowSigned (s.getX rs) * lowSigned (s.getX rt) / 2 ^ 32))
        (signed32Result (lowSigned (s.getX rs) * lowSigned (s.getX rt)))).advanced ∧
    exec (.multu rs rt rd sa) s =
      .next (s.setHiLo (signed32Result (lowSigned (s.getX rs) * lowSigned (s.getX rt) / 2 ^ 32))
        (signed32Result (lowSigned (s.getX rs) * lowSigned (s.getX rt)))).advanced

/-- R143 and R144. The numeric codes are the spec's own choice (92_eei_decisions.md D2). -/
def Obligations.MoveFromHiAndLo : Prop :=
  Selects 0xFC00003F 0x00000010 (fun w => .mfhi (rsOf w) (rtOf w) (rdOf w) (saOf w)) ∧
  Selects 0xFC00003F 0x00000012 (fun w => .mflo (rsOf w) (rtOf w) (rdOf w) (saOf w)) ∧
  ∀ (rs rt rd : RegId) (sa : BitVec 5) (s : State),
    exec (.mfhi rs rt rd sa) s = .next (s.setX rd (s.hi)).advanced ∧
    exec (.mflo rs rt rd sa) s = .next (s.setX rd (s.lo)).advanced

/-- 43_branch_jump.md R153 and R154, the link by R152, whose sign extension is decision D11 and whose register 31 the spec
takes from general knowledge. A jump in a delay slot is the statement RefusedSituations. The numeric codes are the spec's
own choice (92_eei_decisions.md D2). -/
def Obligations.JumpsScheduleRegionTarget : Prop :=
  Selects 0xFC000000 0x08000000 (fun w => .j (target26Of w)) ∧
  Selects 0xFC000000 0x0C000000 (fun w => .jal (target26Of w)) ∧
  ∀ target26 : BitVec 26,
    Schedules (.j target26) (fun _ => True) (fun s => s) (fun s => jumpAddress s.pc target26) ∧
    Schedules (.jal target26) (fun _ => True) linked (fun s => jumpAddress s.pc target26)

/-- 43_branch_jump.md R155 by decision D12. -/
def Obligations.JumpRegisterSchedulesLowHalf : Prop :=
  Selects 0xFC00003F 0x00000008 (fun w => .jr (rsOf w) (rtOf w) (rdOf w) (saOf w)) ∧
  ∀ (rs rt rd : RegId) (sa : BitVec 5),
    Schedules (.jr rs rt rd sa) (fun _ => True) (fun s => s) (fun s => BitVec.ofInt 32 (low (s.getX rs)))

/-- R156 to R161. The numeric codes are the spec's own choice (92_eei_decisions.md D2). -/
def Obligations.BranchesScheduleOrFallThrough : Prop :=
  Selects 0xFC000000 0x10000000 (fun w => .beq (rsOf w) (rtOf w) (imm16Of w)) ∧
  Selects 0xFC000000 0x14000000 (fun w => .bne (rsOf w) (rtOf w) (imm16Of w)) ∧
  Selects 0xFC000000 0x18000000 (fun w => .blez (rsOf w) (rtOf w) (imm16Of w)) ∧
  Selects 0xFC000000 0x1C000000 (fun w => .bgtz (rsOf w) (rtOf w) (imm16Of w)) ∧
  Selects 0xFC1F0000 0x04000000 (fun w => .bltz (rsOf w) (imm16Of w)) ∧
  Selects 0xFC1F0000 0x04010000 (fun w => .bgez (rsOf w) (imm16Of w)) ∧
  ∀ (rs rt : RegId) (imm16 : BitVec 16),
    Schedules (.beq rs rt imm16) (fun s => s.getX rs = s.getX rt) (fun s => s) (fun s => branchAddress s.pc imm16) ∧
    FallsThrough (.beq rs rt imm16) (fun s => s.getX rs = s.getX rt) (fun s => s) ∧
    Schedules (.bne rs rt imm16) (fun s => s.getX rs ≠ s.getX rt) (fun s => s) (fun s => branchAddress s.pc imm16) ∧
    FallsThrough (.bne rs rt imm16) (fun s => s.getX rs ≠ s.getX rt) (fun s => s) ∧
    Schedules (.blez rs rt imm16) (fun s => (s.getX rs).toInt ≤ 0) (fun s => s) (fun s => branchAddress s.pc imm16) ∧
    FallsThrough (.blez rs rt imm16) (fun s => (s.getX rs).toInt ≤ 0) (fun s => s) ∧
    Schedules (.bgtz rs rt imm16) (fun s => 0 < (s.getX rs).toInt) (fun s => s) (fun s => branchAddress s.pc imm16) ∧
    FallsThrough (.bgtz rs rt imm16) (fun s => 0 < (s.getX rs).toInt) (fun s => s) ∧
    Schedules (.bltz rs imm16) (fun s => (s.getX rs).toInt < 0) (fun s => s) (fun s => branchAddress s.pc imm16) ∧
    FallsThrough (.bltz rs imm16) (fun s => (s.getX rs).toInt < 0) (fun s => s) ∧
    Schedules (.bgez rs imm16) (fun s => 0 ≤ (s.getX rs).toInt) (fun s => s) (fun s => branchAddress s.pc imm16) ∧
    FallsThrough (.bgez rs imm16) (fun s => 0 ≤ (s.getX rs).toInt) (fun s => s)

/-- R164 to R169. The numeric codes are the spec's own choice (92_eei_decisions.md D2). -/
def Obligations.LikelyBranchesScheduleOrAnnul : Prop :=
  Selects 0xFC000000 0x50000000 (fun w => .beql (rsOf w) (rtOf w) (imm16Of w)) ∧
  Selects 0xFC000000 0x54000000 (fun w => .bnel (rsOf w) (rtOf w) (imm16Of w)) ∧
  Selects 0xFC000000 0x58000000 (fun w => .blezl (rsOf w) (rtOf w) (imm16Of w)) ∧
  Selects 0xFC000000 0x5C000000 (fun w => .bgtzl (rsOf w) (rtOf w) (imm16Of w)) ∧
  Selects 0xFC1F0000 0x04020000 (fun w => .bltzl (rsOf w) (imm16Of w)) ∧
  Selects 0xFC1F0000 0x04030000 (fun w => .bgezl (rsOf w) (imm16Of w)) ∧
  ∀ (rs rt : RegId) (imm16 : BitVec 16),
    Schedules (.beql rs rt imm16) (fun s => s.getX rs = s.getX rt) (fun s => s) (fun s => branchAddress s.pc imm16) ∧
    Annuls (.beql rs rt imm16) (fun s => s.getX rs = s.getX rt) ∧
    Schedules (.bnel rs rt imm16) (fun s => s.getX rs ≠ s.getX rt) (fun s => s) (fun s => branchAddress s.pc imm16) ∧
    Annuls (.bnel rs rt imm16) (fun s => s.getX rs ≠ s.getX rt) ∧
    Schedules (.blezl rs rt imm16) (fun s => (s.getX rs).toInt ≤ 0) (fun s => s) (fun s => branchAddress s.pc imm16) ∧
    Annuls (.blezl rs rt imm16) (fun s => (s.getX rs).toInt ≤ 0) ∧
    Schedules (.bgtzl rs rt imm16) (fun s => 0 < (s.getX rs).toInt) (fun s => s) (fun s => branchAddress s.pc imm16) ∧
    Annuls (.bgtzl rs rt imm16) (fun s => 0 < (s.getX rs).toInt) ∧
    Schedules (.bltzl rs imm16) (fun s => (s.getX rs).toInt < 0) (fun s => s) (fun s => branchAddress s.pc imm16) ∧
    Annuls (.bltzl rs imm16) (fun s => (s.getX rs).toInt < 0) ∧
    Schedules (.bgezl rs imm16) (fun s => 0 ≤ (s.getX rs).toInt) (fun s => s) (fun s => branchAddress s.pc imm16) ∧
    Annuls (.bgezl rs imm16) (fun s => 0 ≤ (s.getX rs).toInt)

/-- 43_branch_jump.md R152, R162, R163 by decision D11. With rs = 31: the statement RefusedSituations. -/
def Obligations.LinkBranchesWriteLinkAlways : Prop :=
  Selects 0xFC1F0000 0x04100000 (fun w => .bltzal (rsOf w) (imm16Of w)) ∧
  Selects 0xFC1F0000 0x04110000 (fun w => .bgezal (rsOf w) (imm16Of w)) ∧
  ∀ (rs : RegId) (imm16 : BitVec 16), rs ≠ 31 →
    Schedules (.bltzal rs imm16) (fun s => (s.getX rs).toInt < 0) linked (fun s => branchAddress s.pc imm16) ∧
    FallsThrough (.bltzal rs imm16) (fun s => (s.getX rs).toInt < 0) linked ∧
    Schedules (.bgezal rs imm16) (fun s => 0 ≤ (s.getX rs).toInt) linked (fun s => branchAddress s.pc imm16) ∧
    FallsThrough (.bgezal rs imm16) (fun s => 0 ≤ (s.getX rs).toInt) linked

/-- "This spec gives the situation no meaning: a model refuses it" (40_step_and_dispatch.md R98, D16); 43_branch_jump.md
R152, D38. -/
def Obligations.RefusedSituations : Prop :=
  (∀ (s : State) (rs rt rd : RegId) (sa : BitVec 5) (imm16 : BitVec 16) (target26 : BitVec 26), s.delayPC ≠ 0 →
    exec (.j target26) s = .refused .controlTransferInDelaySlot ∧
    exec (.jal target26) s = .refused .controlTransferInDelaySlot ∧
    exec (.jr rs rt rd sa) s = .refused .controlTransferInDelaySlot ∧
    (s.getX rs = s.getX rt → exec (.beq rs rt imm16) s = .refused .controlTransferInDelaySlot) ∧
    (s.getX rs ≠ s.getX rt → exec (.bne rs rt imm16) s = .refused .controlTransferInDelaySlot) ∧
    ((s.getX rs).toInt ≤ 0 → exec (.blez rs rt imm16) s = .refused .controlTransferInDelaySlot) ∧
    (0 < (s.getX rs).toInt → exec (.bgtz rs rt imm16) s = .refused .controlTransferInDelaySlot) ∧
    ((s.getX rs).toInt < 0 → exec (.bltz rs imm16) s = .refused .controlTransferInDelaySlot) ∧
    (0 ≤ (s.getX rs).toInt → exec (.bgez rs imm16) s = .refused .controlTransferInDelaySlot) ∧
    (rs ≠ 31 → (s.getX rs).toInt < 0 → exec (.bltzal rs imm16) s = .refused .controlTransferInDelaySlot) ∧
    (rs ≠ 31 → 0 ≤ (s.getX rs).toInt → exec (.bgezal rs imm16) s = .refused .controlTransferInDelaySlot) ∧
    exec (.beql rs rt imm16) s = .refused .controlTransferInDelaySlot ∧
    exec (.bnel rs rt imm16) s = .refused .controlTransferInDelaySlot ∧
    exec (.blezl rs rt imm16) s = .refused .controlTransferInDelaySlot ∧
    exec (.bgtzl rs rt imm16) s = .refused .controlTransferInDelaySlot ∧
    exec (.bltzl rs imm16) s = .refused .controlTransferInDelaySlot ∧
    exec (.bgezl rs imm16) s = .refused .controlTransferInDelaySlot) ∧
  ∀ (s : State) (imm16 : BitVec 16),
    exec (.bltzal 31 imm16) s = .refused .linkRegisterTested ∧ exec (.bgezal 31 imm16) s = .refused .linkRegisterTested

/-- Nothing that could be executed is refused: the two situations of the statement RefusedSituations are the only ones. -/
def Obligations.CompletesOutsideDelaySlot : Prop :=
  (∀ (i : Instr) (s : State), s.delayPC = 0 → i.wellFormed = true → ∃ t, exec i s = .next t) ∧
  ∀ s : State,
    (∃ t, step s = .next t) ∨
    (step s = .refused .controlTransferInDelaySlot ∧ s.delayPC ≠ 0) ∨
    (step s = .refused .linkRegisterTested ∧
      ∃ i, decode (s.answeredWord s.pc) = .ok i ∧ i.wellFormed = false)

/-- The two tests of 40_step_and_dispatch.md R106, which the spec marks as derived from R93, R95, R96. The other five
likely branches: the statements PcFollowsDelaySlotRule, PortCallsPerStep and LikelyBranchesScheduleOrAnnul. -/
def Obligations.JumpTakesEffectAfterSlot : Prop :=
  (∀ (s : State) (i : Instr) (target : Word), s.halt = false → s.delayPC = 0 →
    s.faults (.readWord s.pc) = false → decode (s.answeredWord s.pc) = .ok i →
    ((∃ target26, (i = .j target26 ∨ i = .jal target26) ∧ target = jumpAddress s.pc target26) ∨
      (∃ rs rt rd sa, i = .jr rs rt rd sa ∧ target = BitVec.ofInt 32 (low (s.getX rs)))) →
    target ≠ 0 → Params.invalidTarget s.params target = false →
    ∃ t, step s = .next t ∧ t.pc = s.pc + 4 ∧ t.delayPC = target ∧ t.halt = false ∧
      ∀ u, step t = .next u → u.halt = false → u.pc = target ∧ u.delayPC = 0) ∧
  ∀ (s : State) (rs rt : RegId) (imm16 : BitVec 16), s.halt = false → s.delayPC = 0 →
    s.faults (.readWord s.pc) = false → decode (s.answeredWord s.pc) = .ok (.beql rs rt imm16) →
    s.getX rs ≠ s.getX rt →
    ∃ t, step s = .next t ∧ t.pc = s.pc + 8 ∧ t.opsExecuted = s.opsExecuted + 1 ∧ t.halt = false ∧
      t.out.portCalls = .readWord s.pc :: s.out.portCalls

/-- 40_step_and_dispatch.md R97 by decision D15: 0 in the latch means that no branch is pending. -/
def Obligations.TargetZeroIsLost : Prop :=
  ∀ s : State, s.delayPC = 0 → Params.invalidTarget s.params 0 = false →
    (∀ target26, jumpAddress s.pc target26 = 0 →
      exec (.j target26) s = .next s.advanced ∧ exec (.jal target26) s = .next (linked s).advanced) ∧
    (∀ rs rt rd sa, low (s.getX rs) = 0 → exec (.jr rs rt rd sa) s = .next s.advanced) ∧
    (∀ rs rt imm16, s.getX rs = s.getX rt → branchAddress s.pc imm16 = 0 →
      exec (.beq rs rt imm16) s = .next s.advanced)

/-- R180. That no load or store changes its base register is in the frame statements. -/
def Obligations.EffectiveAddressWraps : Prop :=
  ∀ (base : DWord) (imm16 : BitVec 16),
    effectiveAddress base imm16 = BitVec.ofInt 32 (low base + imm16.toInt) ∧
    ∀ base' : DWord, low base' = low base → effectiveAddress base' imm16 = effectiveAddress base imm16

/-- R182 and R183. What FlatMem answers is the statement CollaboratorAnswers. The numeric codes are the spec's own choice
(92_eei_decisions.md D2). -/
def Obligations.LoadByteUnsignedAndWord : Prop :=
  Selects 0xFC000000 0x90000000 (fun w => .lbu (rsOf w) (rtOf w) (imm16Of w)) ∧
  Selects 0xFC000000 0x8C000000 (fun w => .lw (rsOf w) (rtOf w) (imm16Of w)) ∧
  (∀ (rs rt : RegId) (imm16 : BitVec 16) (s : State) (a : Word), a = BitVec.ofInt 32 (low (s.getX rs) + imm16.toInt) →
    (s.faults (.readByte a) = false →
      exec (.lbu rs rt imm16) s = .next ((s.called (.readByte a)).setX rt (BitVec.ofNat 64 (s.answeredByte a).toNat)).advanced) ∧
    (s.faults (.readByte a) = true →
      exec (.lbu rs rt imm16) s =
        .next ((s.called (.readByte a)).capture (.memoryFault a) (some (encode (.lbu rs rt imm16)))))) ∧
  (∀ (rs rt : RegId) (imm16 : BitVec 16) (s : State) (a : Word), a = BitVec.ofInt 32 (low (s.getX rs) + imm16.toInt) →
    (s.faults (.readWord a) = false →
      exec (.lw rs rt imm16) s = .next ((s.called (.readWord a)).setX rt (signed32Result (s.answeredWord a).toNat)).advanced) ∧
    (s.faults (.readWord a) = true →
      exec (.lw rs rt imm16) s =
        .next ((s.called (.readWord a)).capture (.memoryFault a) (some (encode (.lw rs rt imm16))))))

/-- 44_load_store.md R181 by decision D21. -/
def Obligations.LoadByteZeroExtends : Prop :=
  Selects 0xFC000000 0x80000000 (fun w => .lb (rsOf w) (rtOf w) (imm16Of w)) ∧
  (∀ (rs rt : RegId) (imm16 : BitVec 16) (s : State) (a : Word), a = BitVec.ofInt 32 (low (s.getX rs) + imm16.toInt) →
    (s.faults (.readByte a) = false →
      exec (.lb rs rt imm16) s = .next ((s.called (.readByte a)).setX rt (BitVec.ofNat 64 (s.answeredByte a).toNat)).advanced) ∧
    (s.faults (.readByte a) = true →
      exec (.lb rs rt imm16) s =
        .next ((s.called (.readByte a)).capture (.memoryFault a) (some (encode (.lb rs rt imm16))))))

/-- 44_load_store.md R184, R185 by decision D23, the capture by D31 and D32. After a fault of FlatMem memory is unchanged
(60_exceptions.md R283); after one of another collaborator, the only way SB faults, whether it changed is that
collaborator's matter, and that mem is unchanged is the model's choice (log 3). What the bytes of a word are: the
statement ByteOrderIsBigEndian. -/
def Obligations.StoresWriteTheirWidth : Prop :=
  Selects 0xFC000000 0xA0000000 (fun w => .sb (rsOf w) (rtOf w) (imm16Of w)) ∧
  Selects 0xFC000000 0xAC000000 (fun w => .sw (rsOf w) (rtOf w) (imm16Of w)) ∧
  (∀ (rs rt : RegId) (imm16 : BitVec 16) (s : State) (a : Word) (v : Byte),
    a = BitVec.ofInt 32 (low (s.getX rs) + imm16.toInt) → v = BitVec.ofInt 8 (low (s.getX rt)) →
    (s.faults (.writeByte a v) = false →
      exec (.sb rs rt imm16) s =
        .next ((s.called (.writeByte a v)).setMem (s.mem.write a.toNat v)).advanced) ∧
    (s.faults (.writeByte a v) = true →
      exec (.sb rs rt imm16) s =
        .next ((s.called (.writeByte a v)).capture (.memoryFault a) (some (encode (.sb rs rt imm16)))))) ∧
  (∀ (rs rt : RegId) (imm16 : BitVec 16) (s : State) (a v : Word),
    a = BitVec.ofInt 32 (low (s.getX rs) + imm16.toInt) → v = BitVec.ofInt 32 (low (s.getX rt)) →
    (s.faults (.writeWord a v) = false →
      exec (.sw rs rt imm16) s =
        .next ((s.called (.writeWord a v)).setMem (s.mem.writeWord a v)).advanced) ∧
    (s.faults (.writeWord a v) = true →
      exec (.sw rs rt imm16) s =
        .next ((s.called (.writeWord a v)).capture (.memoryFault a) (some (encode (.sw rs rt imm16))))))

/-- The mixed-width accesses of 20_memory.md R42, byte order by decision D19. -/
def Obligations.ByteOrderIsBigEndian : Prop :=
  (∀ (rs rt : RegId) (imm16 : BitVec 16) (s : State), s.memoryCanonical →
    s.faults (.writeWord (effectiveAddress (s.getX rs) imm16) (BitVec.ofInt 32 (low (s.getX rt)))) = false →
    ∃ t, exec (.sw rs rt imm16) s = .next t ∧
      ∀ k < 4, t.mem.read (((effectiveAddress (s.getX rs) imm16).toNat + k) % 2 ^ 32) =
        BitVec.ofNat 8 ((s.getX rt).toNat / 2 ^ (24 - 8 * k))) ∧
  (∀ (rs rt : RegId) (imm16 : BitVec 16) (s : State) (a : Word), s.memoryCanonical →
    effectiveAddress (s.getX rs) imm16 = a + 3 →
    s.faults (.writeByte (a + 3) (BitVec.ofInt 8 (low (s.getX rt)))) = false →
    ∃ t, exec (.sb rs rt imm16) s = .next t ∧
      (t.mem.readWord a).toNat = (s.mem.readWord a).toNat / 2 ^ 8 * 2 ^ 8 + (s.getX rt).toNat % 2 ^ 8)

/-- R56 (20_memory.md), the one property the source requires of any collaborator, over every run. The form in which the
model takes the collaborator is its own (log 3), and so are its readings that a bound byte read does not fault, so that
the load completes, and of what counts as an intervening write (log 11). That a write by another agent inside Mem does not
count is its choice (log 13). -/
def Obligations.StoredByteLoadsBack : Prop :=
  (∀ (s : State) (a : Word) (v : Byte), s.answers = [] → s.faults (.writeByte a v) = false) ∧
  ∀ (rs rt : RegId) (imm16 : BitVec 16) (s : State) (a : Word) (v : Byte), s.memoryCanonical →
    a = effectiveAddress (s.getX rs) imm16 → v = BitVec.ofNat 8 (s.getX rt).toNat → s.faults (.writeByte a v) = false →
    ∃ t, exec (.sb rs rt imm16) s = .next t ∧
      ∀ (n : Nat) (u : State) (calls : List PortCall), runSteps n t = .next u →
        u.out.portCalls = calls ++ t.out.portCalls → (∀ c ∈ calls, c.writes a = false) →
        u.faults (.readByte a) = false ∧ u.answeredByte a = v ∧
        ∀ (rs' rt' : RegId) (imm16' : BitVec 16), effectiveAddress (u.getX rs') imm16' = a →
          ∃ u', exec (.lbu rs' rt' imm16') u = .next u' ∧ u'.getX rt' = BitVec.ofNat 64 v.toNat

/-- 20_memory.md R43, R46 by decisions D19 and D20, and R56. The list of answers and the set of bound addresses are the
model's form of the parameter Mem (log 3), and that a bound read does not fault is its reading (log 11). -/
def Obligations.CollaboratorAnswers : Prop :=
  ∀ (s : State) (c : PortCall) (a : Word),
    (s.answers = [] →
      (s.faults c = true ↔
        s.params.misaligned = .fault ∧ ∃ b : Word, b.toNat % 4 ≠ 0 ∧ (c = .readWord b ∨ ∃ v, c = .writeWord b v)) ∧
      s.answeredByte a = s.mem.read a.toNat ∧
      (s.answeredWord a).toNat =
        (s.mem.read a.toNat).toNat * 2 ^ 24 + (s.mem.read ((a.toNat + 1) % 2 ^ 32)).toNat * 2 ^ 16 +
          (s.mem.read ((a.toNat + 2) % 2 ^ 32)).toNat * 2 ^ 8 + (s.mem.read ((a.toNat + 3) % 2 ^ 32)).toNat) ∧
    (a ∈ s.settled → s.faults (.readByte a) = false ∧ s.answeredByte a = s.mem.read a.toNat) ∧
    (∀ v rest, s.answers = .value v :: rest →
      s.faults c = false ∧ s.answeredWord a = v ∧ (a ∉ s.settled → s.answeredByte a = BitVec.ofNat 8 v.toNat)) ∧
    (∀ rest, s.answers = .fault :: rest → (∀ b ∈ s.settled, c ≠ .readByte b) → s.faults c = true)

/-- Self-modifying code needs nothing (20_memory.md R54, derived there). -/
def Obligations.StoreIsSeenByNextFetch : Prop :=
  ∀ (s : State) (w : Word) (rs rt : RegId) (imm16 : BitVec 16), s.memoryCanonical → s.answers = [] → s.halt = false →
    s.delayPC = 0 → s.fetches w → decode w = .ok (.sw rs rt imm16) → effectiveAddress (s.getX rs) imm16 = s.pc + 4 →
    ∃ t, step s = .next t ∧ t.pc = s.pc + 4 ∧ t.halt = false ∧ t.fetches (BitVec.ofInt 32 (low (s.getX rt)))

/-- 44_load_store.md R186 by decision D24. -/
def Obligations.CacheDoesNothing : Prop :=
  Selects 0xFC000000 0xBC000000 (fun w => .cache (rsOf w) (rtOf w) (imm16Of w)) ∧
  ∀ (rs rt : RegId) (imm16 : BitVec 16) (s : State), exec (.cache rs rt imm16) s = .next s.advanced

/-- 45_cop0_system.md R221, R222 by decision D25. -/
def Obligations.ControlRegisterMoves : Prop :=
  Selects 0xFFE00000 0x40000000 (fun w => .mfc0 (rtOf w) (rdOf w) (low11Of w)) ∧
  Selects 0xFFE00000 0x40800000 (fun w => .mtc0 (rtOf w) (rdOf w) (low11Of w)) ∧
  ∀ (rt rd : RegId) (low11 : BitVec 11) (s : State),
    exec (.mfc0 rt rd low11) s = .next (s.setX rt (signed32Result (s.getC0 rd).toNat)).advanced ∧
    (Params.writable s.params rd = true →
      exec (.mtc0 rt rd low11) s = .next (s.setC0 rd (BitVec.ofInt 32 (low (s.getX rt)))).advanced) ∧
    (Params.writable s.params rd = false →
      exec (.mtc0 rt rd low11) s =
        .next (s.capture .unimplementedOperation (some (encode (.mtc0 rt rd low11)))))

/-- R145, R146, R191 to R200. The numeric codes are the spec's own choice (92_eei_decisions.md D2). -/
def Obligations.MovesAndPartialAccessesFault : Prop :=
  Selects 0xFC00003F 0x00000011 (fun w => .mthi (rsOf w) (rtOf w) (rdOf w) (saOf w)) ∧
  Selects 0xFC00003F 0x00000013 (fun w => .mtlo (rsOf w) (rtOf w) (rdOf w) (saOf w)) ∧
  Selects 0xFC000000 0x88000000 (fun w => .lwl (rsOf w) (rtOf w) (imm16Of w)) ∧
  Selects 0xFC000000 0x98000000 (fun w => .lwr (rsOf w) (rtOf w) (imm16Of w)) ∧
  Selects 0xFC000000 0xA8000000 (fun w => .swl (rsOf w) (rtOf w) (imm16Of w)) ∧
  Selects 0xFC000000 0xB8000000 (fun w => .swr (rsOf w) (rtOf w) (imm16Of w)) ∧
  Selects 0xFC000000 0xDC000000 (fun w => .ld (rsOf w) (rtOf w) (imm16Of w)) ∧
  Selects 0xFC000000 0xFC000000 (fun w => .sd (rsOf w) (rtOf w) (imm16Of w)) ∧
  Selects 0xFC000000 0x68000000 (fun w => .ldl (rsOf w) (rtOf w) (imm16Of w)) ∧
  Selects 0xFC000000 0x6C000000 (fun w => .ldr (rsOf w) (rtOf w) (imm16Of w)) ∧
  Selects 0xFC000000 0xB0000000 (fun w => .sdl (rsOf w) (rtOf w) (imm16Of w)) ∧
  Selects 0xFC000000 0xB4000000 (fun w => .sdr (rsOf w) (rtOf w) (imm16Of w)) ∧
  ∀ (rs rt rd : RegId) (sa : BitVec 5) (imm16 : BitVec 16),
    RaisesUnimplemented (.mthi rs rt rd sa) ∧
    RaisesUnimplemented (.mtlo rs rt rd sa) ∧
    RaisesUnimplemented (.lwl rs rt imm16) ∧
    RaisesUnimplemented (.lwr rs rt imm16) ∧
    RaisesUnimplemented (.swl rs rt imm16) ∧
    RaisesUnimplemented (.swr rs rt imm16) ∧
    RaisesUnimplemented (.ld rs rt imm16) ∧
    RaisesUnimplemented (.sd rs rt imm16) ∧
    RaisesUnimplemented (.ldl rs rt imm16) ∧
    RaisesUnimplemented (.ldr rs rt imm16) ∧
    RaisesUnimplemented (.sdl rs rt imm16) ∧
    RaisesUnimplemented (.sdr rs rt imm16)

/-- R203 to R208, R223, R224, R226 to R229. The numeric codes are the spec's own choice (92_eei_decisions.md D2). -/
def Obligations.CoprocessorAccessesAndTlbFault : Prop :=
  Selects 0xFC000000 0xD0000000 (fun w => .lld (rsOf w) (rtOf w) (imm16Of w)) ∧
  Selects 0xFC000000 0xF0000000 (fun w => .scd (rsOf w) (rtOf w) (imm16Of w)) ∧
  Selects 0xFC000000 0xC4000000 (fun w => .lwc1 (rsOf w) (rtOf w) (imm16Of w)) ∧
  Selects 0xFC000000 0xE4000000 (fun w => .swc1 (rsOf w) (rtOf w) (imm16Of w)) ∧
  Selects 0xFC000000 0xD4000000 (fun w => .ldc1 (rsOf w) (rtOf w) (imm16Of w)) ∧
  Selects 0xFC000000 0xF4000000 (fun w => .sdc1 (rsOf w) (rtOf w) (imm16Of w)) ∧
  Selects 0xFFE00000 0x40200000 (fun w => .dmfc0 (rtOf w) (rdOf w) (low11Of w)) ∧
  Selects 0xFFE00000 0x40A00000 (fun w => .dmtc0 (rtOf w) (rdOf w) (low11Of w)) ∧
  Selects 0xFE00003F 0x42000001 (fun w => .tlbr (coOf w)) ∧
  Selects 0xFE00003F 0x42000002 (fun w => .tlbwi (coOf w)) ∧
  Selects 0xFE00003F 0x42000006 (fun w => .tlbwr (coOf w)) ∧
  Selects 0xFE00003F 0x42000008 (fun w => .tlbp (coOf w)) ∧
  ∀ (rs rt rd : RegId) (imm16 : BitVec 16) (low11 : BitVec 11) (co : BitVec 19),
    RaisesUnimplemented (.lld rs rt imm16) ∧
    RaisesUnimplemented (.scd rs rt imm16) ∧
    RaisesUnimplemented (.lwc1 rs rt imm16) ∧
    RaisesUnimplemented (.swc1 rs rt imm16) ∧
    RaisesUnimplemented (.ldc1 rs rt imm16) ∧
    RaisesUnimplemented (.sdc1 rs rt imm16) ∧
    RaisesUnimplemented (.dmfc0 rt rd low11) ∧
    RaisesUnimplemented (.dmtc0 rt rd low11) ∧
    RaisesUnimplemented (.tlbr co) ∧
    RaisesUnimplemented (.tlbwi co) ∧
    RaisesUnimplemented (.tlbwr co) ∧
    RaisesUnimplemented (.tlbp co)

/-- R251 to R262. The numeric codes are the spec's own choice (92_eei_decisions.md D2). -/
def Obligations.DoublewordArithmeticFaults : Prop :=
  Selects 0xFC00003F 0x0000002C (fun w => .dadd (rsOf w) (rtOf w) (rdOf w) (saOf w)) ∧
  Selects 0xFC00003F 0x0000002D (fun w => .daddu (rsOf w) (rtOf w) (rdOf w) (saOf w)) ∧
  Selects 0xFC00003F 0x0000002E (fun w => .dsub (rsOf w) (rtOf w) (rdOf w) (saOf w)) ∧
  Selects 0xFC00003F 0x0000002F (fun w => .dsubu (rsOf w) (rtOf w) (rdOf w) (saOf w)) ∧
  Selects 0xFC000000 0x60000000 (fun w => .daddi (rsOf w) (rtOf w) (imm16Of w)) ∧
  Selects 0xFC000000 0x64000000 (fun w => .daddiu (rsOf w) (rtOf w) (imm16Of w)) ∧
  Selects 0xFC00003F 0x00000038 (fun w => .dsll (rsOf w) (rtOf w) (rdOf w) (saOf w)) ∧
  Selects 0xFC00003F 0x0000003A (fun w => .dsrl (rsOf w) (rtOf w) (rdOf w) (saOf w)) ∧
  Selects 0xFC00003F 0x0000003B (fun w => .dsra (rsOf w) (rtOf w) (rdOf w) (saOf w)) ∧
  Selects 0xFC00003F 0x00000014 (fun w => .dsllv (rsOf w) (rtOf w) (rdOf w) (saOf w)) ∧
  Selects 0xFC00003F 0x00000016 (fun w => .dsrlv (rsOf w) (rtOf w) (rdOf w) (saOf w)) ∧
  Selects 0xFC00003F 0x00000017 (fun w => .dsrav (rsOf w) (rtOf w) (rdOf w) (saOf w)) ∧
  ∀ (rs rt rd : RegId) (sa : BitVec 5) (imm16 : BitVec 16),
    RaisesUnimplemented (.dadd rs rt rd sa) ∧
    RaisesUnimplemented (.daddu rs rt rd sa) ∧
    RaisesUnimplemented (.dsub rs rt rd sa) ∧
    RaisesUnimplemented (.dsubu rs rt rd sa) ∧
    RaisesUnimplemented (.daddi rs rt imm16) ∧
    RaisesUnimplemented (.daddiu rs rt imm16) ∧
    RaisesUnimplemented (.dsll rs rt rd sa) ∧
    RaisesUnimplemented (.dsrl rs rt rd sa) ∧
    RaisesUnimplemented (.dsra rs rt rd sa) ∧
    RaisesUnimplemented (.dsllv rs rt rd sa) ∧
    RaisesUnimplemented (.dsrlv rs rt rd sa) ∧
    RaisesUnimplemented (.dsrav rs rt rd sa)

/-- R263 to R270. The numeric codes are the spec's own choice (92_eei_decisions.md D2). -/
def Obligations.DoublewordMultiplyAndCop1Fault : Prop :=
  Selects 0xFC00003F 0x0000003C (fun w => .dsll32 (rsOf w) (rtOf w) (rdOf w) (saOf w)) ∧
  Selects 0xFC00003F 0x0000003E (fun w => .dsrl32 (rsOf w) (rtOf w) (rdOf w) (saOf w)) ∧
  Selects 0xFC00003F 0x0000003F (fun w => .dsra32 (rsOf w) (rtOf w) (rdOf w) (saOf w)) ∧
  Selects 0xFC00003F 0x0000001C (fun w => .dmult (rsOf w) (rtOf w) (rdOf w) (saOf w)) ∧
  Selects 0xFC00003F 0x0000001D (fun w => .dmultu (rsOf w) (rtOf w) (rdOf w) (saOf w)) ∧
  Selects 0xFC00003F 0x0000001E (fun w => .ddiv (rsOf w) (rtOf w) (rdOf w) (saOf w)) ∧
  Selects 0xFC00003F 0x0000001F (fun w => .ddivu (rsOf w) (rtOf w) (rdOf w) (saOf w)) ∧
  Selects 0xFC000000 0x44000000 (fun w => .cop1 (target26Of w)) ∧
  ∀ (rs rt rd : RegId) (sa : BitVec 5) (target26 : BitVec 26),
    RaisesUnimplemented (.dsll32 rs rt rd sa) ∧
    RaisesUnimplemented (.dsrl32 rs rt rd sa) ∧
    RaisesUnimplemented (.dsra32 rs rt rd sa) ∧
    RaisesUnimplemented (.dmult rs rt rd sa) ∧
    RaisesUnimplemented (.dmultu rs rt rd sa) ∧
    RaisesUnimplemented (.ddiv rs rt rd sa) ∧
    RaisesUnimplemented (.ddivu rs rt rd sa) ∧
    RaisesUnimplemented (.cop1 target26)

/-- The rows that fault by a decision of the spec: D6, D9, D12, D22, D27. -/
def Obligations.UnassignedMnemonicsFault : Prop :=
  Selects 0xFC00003F 0x00000027 (fun w => .nor (rsOf w) (rtOf w) (rdOf w) (saOf w)) ∧
  Selects 0xFC000000 0x3C000000 (fun w => .lui (rsOf w) (rtOf w) (imm16Of w)) ∧
  Selects 0xFC00003F 0x0000001A (fun w => .div (rsOf w) (rtOf w) (rdOf w) (saOf w)) ∧
  Selects 0xFC00003F 0x0000001B (fun w => .divu (rsOf w) (rtOf w) (rdOf w) (saOf w)) ∧
  Selects 0xFC00003F 0x00000009 (fun w => .jalr (rsOf w) (rtOf w) (rdOf w) (saOf w)) ∧
  Selects 0xFC1F0000 0x04120000 (fun w => .bltzall (rsOf w) (imm16Of w)) ∧
  Selects 0xFC1F0000 0x04130000 (fun w => .bgezall (rsOf w) (imm16Of w)) ∧
  Selects 0xFC000000 0x84000000 (fun w => .lh (rsOf w) (rtOf w) (imm16Of w)) ∧
  Selects 0xFC000000 0x94000000 (fun w => .lhu (rsOf w) (rtOf w) (imm16Of w)) ∧
  Selects 0xFC000000 0x9C000000 (fun w => .lwu (rsOf w) (rtOf w) (imm16Of w)) ∧
  Selects 0xFC000000 0xA4000000 (fun w => .sh (rsOf w) (rtOf w) (imm16Of w)) ∧
  Selects 0xFC000000 0xC0000000 (fun w => .ll (rsOf w) (rtOf w) (imm16Of w)) ∧
  Selects 0xFC000000 0xE0000000 (fun w => .sc (rsOf w) (rtOf w) (imm16Of w)) ∧
  Selects 0xFC000000 0xC8000000 (fun w => .lwc2 (rsOf w) (rtOf w) (imm16Of w)) ∧
  Selects 0xFC000000 0xD8000000 (fun w => .ldc2 (rsOf w) (rtOf w) (imm16Of w)) ∧
  Selects 0xFC000000 0xE8000000 (fun w => .swc2 (rsOf w) (rtOf w) (imm16Of w)) ∧
  Selects 0xFC000000 0xF8000000 (fun w => .sdc2 (rsOf w) (rtOf w) (imm16Of w)) ∧
  Selects 0xFC000000 0x48000000 (fun w => .cop2 (target26Of w)) ∧
  Selects 0xFFE00000 0x41000000 (fun w => .bc0 (rtOf w) (imm16Of w)) ∧
  Selects 0xFE00003F 0x42000018 (fun w => .eret (coOf w)) ∧
  Selects 0xFC00003F 0x0000000C (fun w => .syscall (codeOf w)) ∧
  Selects 0xFC00003F 0x0000000D (fun w => .brk (codeOf w)) ∧
  Selects 0xFC00003F 0x0000000F (fun w => .sync (codeOf w)) ∧
  Selects 0xFC00003F 0x00000030 (fun w => .tge (rsOf w) (rtOf w) (rdOf w) (saOf w)) ∧
  Selects 0xFC00003F 0x00000031 (fun w => .tgeu (rsOf w) (rtOf w) (rdOf w) (saOf w)) ∧
  Selects 0xFC00003F 0x00000032 (fun w => .tlt (rsOf w) (rtOf w) (rdOf w) (saOf w)) ∧
  Selects 0xFC00003F 0x00000033 (fun w => .tltu (rsOf w) (rtOf w) (rdOf w) (saOf w)) ∧
  Selects 0xFC00003F 0x00000034 (fun w => .teq (rsOf w) (rtOf w) (rdOf w) (saOf w)) ∧
  Selects 0xFC00003F 0x00000036 (fun w => .tne (rsOf w) (rtOf w) (rdOf w) (saOf w)) ∧
  Selects 0xFC1F0000 0x04080000 (fun w => .tgei (rsOf w) (imm16Of w)) ∧
  Selects 0xFC1F0000 0x04090000 (fun w => .tgeiu (rsOf w) (imm16Of w)) ∧
  Selects 0xFC1F0000 0x040A0000 (fun w => .tlti (rsOf w) (imm16Of w)) ∧
  Selects 0xFC1F0000 0x040B0000 (fun w => .tltiu (rsOf w) (imm16Of w)) ∧
  Selects 0xFC1F0000 0x040C0000 (fun w => .teqi (rsOf w) (imm16Of w)) ∧
  Selects 0xFC1F0000 0x040E0000 (fun w => .tnei (rsOf w) (imm16Of w)) ∧
  ∀ (rs rt rd : RegId) (sa : BitVec 5) (imm16 : BitVec 16) (co : BitVec 19) (code : BitVec 20) (target26 : BitVec 26),
    RaisesUnimplemented (.nor rs rt rd sa) ∧
    RaisesUnimplemented (.lui rs rt imm16) ∧
    RaisesUnimplemented (.div rs rt rd sa) ∧
    RaisesUnimplemented (.divu rs rt rd sa) ∧
    RaisesUnimplemented (.jalr rs rt rd sa) ∧
    RaisesUnimplemented (.bltzall rs imm16) ∧
    RaisesUnimplemented (.bgezall rs imm16) ∧
    RaisesUnimplemented (.lh rs rt imm16) ∧
    RaisesUnimplemented (.lhu rs rt imm16) ∧
    RaisesUnimplemented (.lwu rs rt imm16) ∧
    RaisesUnimplemented (.sh rs rt imm16) ∧
    RaisesUnimplemented (.ll rs rt imm16) ∧
    RaisesUnimplemented (.sc rs rt imm16) ∧
    RaisesUnimplemented (.lwc2 rs rt imm16) ∧
    RaisesUnimplemented (.ldc2 rs rt imm16) ∧
    RaisesUnimplemented (.swc2 rs rt imm16) ∧
    RaisesUnimplemented (.sdc2 rs rt imm16) ∧
    RaisesUnimplemented (.cop2 target26) ∧
    RaisesUnimplemented (.bc0 rt imm16) ∧
    RaisesUnimplemented (.eret co) ∧
    RaisesUnimplemented (.syscall code) ∧
    RaisesUnimplemented (.brk code) ∧
    RaisesUnimplemented (.sync code) ∧
    RaisesUnimplemented (.tge rs rt rd sa) ∧
    RaisesUnimplemented (.tgeu rs rt rd sa) ∧
    RaisesUnimplemented (.tlt rs rt rd sa) ∧
    RaisesUnimplemented (.tltu rs rt rd sa) ∧
    RaisesUnimplemented (.teq rs rt rd sa) ∧
    RaisesUnimplemented (.tne rs rt rd sa) ∧
    RaisesUnimplemented (.tgei rs imm16) ∧
    RaisesUnimplemented (.tgeiu rs imm16) ∧
    RaisesUnimplemented (.tlti rs imm16) ∧
    RaisesUnimplemented (.tltiu rs imm16) ∧
    RaisesUnimplemented (.teqi rs imm16) ∧
    RaisesUnimplemented (.tnei rs imm16)

/-- The frame of every instruction with a general register as destination. `shapeOf` (Safety) lists them. -/
def Obligations.FrameOneRegister : Prop :=
  ∀ (i : Instr) (s t : State) (r : RegId), shapeOf i = .register r ∨ shapeOf i = .load r → exec i s = .next t →
    OnlyWrites (fun q => q = r) s t ∧ SameBytes s t

/-- The frames of the instructions that write the accumulators or a control register. -/
def Obligations.FrameAccumulatorsAndControl : Prop :=
  (∀ (i : Instr) (s t : State), shapeOf i = .accumulators → exec i s = .next t →
    (∀ q, t.getX q = s.getX q) ∧ (∀ q, t.getC0 q = s.getC0 q) ∧ t.halt = s.halt ∧ t.params = s.params ∧
      t.out = s.out ∧ SameBytes s t) ∧
  ∀ (i : Instr) (s t : State) (r : RegId), shapeOf i = .control r → exec i s = .next t →
    (∀ q, t.getX q = s.getX q) ∧ t.hi = s.hi ∧ t.lo = s.lo ∧ (∀ q, q ≠ r ∨ t.halt ≠ s.halt → t.getC0 q = s.getC0 q) ∧
      t.params = s.params ∧ SameBytes s t

/-- The frame of every instruction that writes no register: only pc, the latch and the counter may change. -/
def Obligations.FrameTransfersAndCache : Prop :=
  ∀ (i : Instr) (s t : State), shapeOf i = .transfer ∨ shapeOf i = .likelyTransfer ∨ shapeOf i = .nothing →
    exec i s = .next t → OnlyWrites (fun _ => False) s t ∧ SameBytes s t

/-- The frame of the linking transfers. -/
def Obligations.FrameLinkingTransfers : Prop :=
  ∀ (i : Instr) (s t : State), shapeOf i = .linkTransfer → exec i s = .next t →
    OnlyWrites (fun q => q = 31) s t ∧ SameBytes s t

/-- The frame of the stores, with the address computed by the function the meanings use. -/
def Obligations.FrameStores : Prop :=
  ∀ (rs rt : RegId) (imm16 : BitVec 16) (s t : State) (a : Word), effectiveAddress (s.getX rs) imm16 = a →
    (exec (.sb rs rt imm16) s = .next t →
      OnlyWrites (fun _ => False) s t ∧ ∀ k : Nat, k ≠ a.toNat → t.mem.read k = s.mem.read k) ∧
    (exec (.sw rs rt imm16) s = .next t →
      OnlyWrites (fun _ => False) s t ∧
        ∀ k : Nat, (∀ j < 4, k ≠ (a.toNat + j) % 2 ^ 32) → t.mem.read k = s.mem.read k)

/-- 60_exceptions.md R289 by decision D36: what the host may do after a fault, and the only sense in which a fault recurs.
That the change is a list of bytes and an intervening write in R56 is the model's reading (log 12). -/
def Obligations.FaultRecursUntilMemoryChanges : Prop :=
  (∀ (s t : State) (d : Diagnostic), s.answers = [] → s.halt = false → step s = .next t → t.halt = true →
    t.out.diagnostics = d :: s.out.diagnostics →
    ∃ u, hostMove .step t = .next u ∧ u.halt = true ∧ u.pc = t.pc ∧ u.mem = t.mem ∧
      u.out.diagnostics = d :: t.out.diagnostics) ∧
  ∀ (s : State) (bytes : List (Word × Byte)), ∃ t, hostMove (.changeMemory bytes) s = .next t ∧
    (∀ r, t.getX r = s.getX r) ∧ (∀ r, t.getC0 r = s.getC0 r) ∧ t.hi = s.hi ∧ t.lo = s.lo ∧ t.pc = s.pc ∧
    t.delayPC = s.delayPC ∧ t.halt = s.halt ∧ t.opsExecuted = s.opsExecuted ∧ t.params = s.params ∧
    t.answers = s.answers ∧ t.out = s.out ∧
    (∀ k : Nat, (∀ p ∈ bytes, p.1.toNat ≠ k) → t.mem.read k = s.mem.read k) ∧
    (∀ before a v after, bytes = before ++ (a, v) :: after → (∀ p ∈ after, p.1 ≠ a) → s.memoryCanonical →
      t.mem.read a.toNat = v) ∧
    (∀ b, b ∈ t.settled ↔ b ∈ s.settled ∧ ∀ p ∈ bytes, p.1 ≠ b)
end

