-- ==== Sys2Proof/Laws/Encoding.lean ====
section
/-! SUPPORT. Laws of the encodings: every field of an encoded word, every word from its fields (30_encoding.md R61, R62). -/

namespace Sys2Proof

theorem toNat_append_add {n m : Nat} (x : BitVec n) (y : BitVec m) : (x ++ y).toNat = x.toNat * 2 ^ m + y.toNat := by
  rw [BitVec.toNat_append, ← Nat.shiftLeft_add_eq_or_of_lt y.isLt, Nat.shiftLeft_eq]

/-! ## Fields as numbers -/

theorem opcodeOf_toNat (w : Word) : (opcodeOf w).toNat = w.toNat / 2 ^ 26 % 64 := by
  simp [opcodeOf, BitVec.extractLsb'_toNat, Nat.shiftRight_eq_div_pow]
theorem rsOf_toNat (w : Word) : (rsOf w).toNat = w.toNat / 2 ^ 21 % 32 := by
  simp [rsOf, BitVec.extractLsb'_toNat, Nat.shiftRight_eq_div_pow]
theorem rtOf_toNat (w : Word) : (rtOf w).toNat = w.toNat / 2 ^ 16 % 32 := by
  simp [rtOf, BitVec.extractLsb'_toNat, Nat.shiftRight_eq_div_pow]
theorem rdOf_toNat (w : Word) : (rdOf w).toNat = w.toNat / 2 ^ 11 % 32 := by
  simp [rdOf, BitVec.extractLsb'_toNat, Nat.shiftRight_eq_div_pow]
theorem saOf_toNat (w : Word) : (saOf w).toNat = w.toNat / 2 ^ 6 % 32 := by
  simp [saOf, BitVec.extractLsb'_toNat, Nat.shiftRight_eq_div_pow]
theorem functOf_toNat (w : Word) : (functOf w).toNat = w.toNat % 64 := by
  simp [functOf, BitVec.extractLsb'_toNat, Nat.shiftRight_eq_div_pow]
theorem imm16Of_toNat (w : Word) : (imm16Of w).toNat = w.toNat % 65536 := by
  simp [imm16Of, BitVec.extractLsb'_toNat, Nat.shiftRight_eq_div_pow]
theorem target26Of_toNat (w : Word) : (target26Of w).toNat = w.toNat % 67108864 := by
  simp [target26Of, BitVec.extractLsb'_toNat, Nat.shiftRight_eq_div_pow]
theorem low11Of_toNat (w : Word) : (low11Of w).toNat = w.toNat % 2048 := by
  simp [low11Of, BitVec.extractLsb'_toNat, Nat.shiftRight_eq_div_pow]
theorem codeOf_toNat (w : Word) : (codeOf w).toNat = w.toNat / 2 ^ 6 % 1048576 := by
  simp [codeOf, BitVec.extractLsb'_toNat, Nat.shiftRight_eq_div_pow]
theorem coOf_toNat (w : Word) : (coOf w).toNat = w.toNat / 2 ^ 6 % 524288 := by
  simp [coOf, BitVec.extractLsb'_toNat, Nat.shiftRight_eq_div_pow]

/-- Bit 25, which marks the CO group, as a number. -/
theorem rsOf_getLsbD_four (w : Word) : (rsOf w).getLsbD 4 = decide (w.toNat / 2 ^ 25 % 2 = 1) := by
  rw [BitVec.getLsbD, rsOf_toNat, Nat.testBit_eq_decide_div_mod_eq]
  congr 1; apply propext; omega

/-! ## Encoded words as numbers -/

theorem encodeR_toNat (funct : BitVec 6) (rs : BitVec 5) (rt : BitVec 5) (rd : BitVec 5) (sa : BitVec 5) :
    (encodeR funct rs rt rd sa).toNat = (((((0) * 32 + rs.toNat) * 32 + rt.toNat) * 32 + rd.toNat) * 32 + sa.toNat) * 64 + funct.toNat := by
  have h : (encodeR funct rs rt rd sa).toNat = (0#6 ++ rs ++ rt ++ rd ++ sa ++ funct).toNat := rfl
  rw [h]; simp only [toNat_append_add]; simp
theorem encodeI_toNat (opcode : BitVec 6) (rs : BitVec 5) (rt : BitVec 5) (imm16 : BitVec 16) :
    (encodeI opcode rs rt imm16).toNat = (((opcode.toNat) * 32 + rs.toNat) * 32 + rt.toNat) * 65536 + imm16.toNat := by
  have h : (encodeI opcode rs rt imm16).toNat = (opcode ++ rs ++ rt ++ imm16).toNat := rfl
  rw [h]; simp only [toNat_append_add]; simp
theorem encodeJ_toNat (opcode : BitVec 6) (target26 : BitVec 26) :
    (encodeJ opcode target26).toNat = (opcode.toNat) * 67108864 + target26.toNat := by
  have h : (encodeJ opcode target26).toNat = (opcode ++ target26).toNat := rfl
  rw [h]; simp only [toNat_append_add]; simp
theorem encodeCode_toNat (funct : BitVec 6) (code : BitVec 20) :
    (encodeCode funct code).toNat = ((0) * 1048576 + code.toNat) * 64 + funct.toNat := by
  have h : (encodeCode funct code).toNat = (0#6 ++ code ++ funct).toNat := rfl
  rw [h]; simp only [toNat_append_add]; simp
theorem encodeC0_toNat (rs : BitVec 5) (rt : BitVec 5) (rd : BitVec 5) (low11 : BitVec 11) :
    (encodeC0 rs rt rd low11).toNat = ((((16) * 32 + rs.toNat) * 32 + rt.toNat) * 32 + rd.toNat) * 2048 + low11.toNat := by
  have h : (encodeC0 rs rt rd low11).toNat = (16#6 ++ rs ++ rt ++ rd ++ low11).toNat := rfl
  rw [h]; simp only [toNat_append_add]; simp
theorem encodeCo_toNat (funct : BitVec 6) (co : BitVec 19) :
    (encodeCo funct co).toNat = (((16) * 2 + 1) * 524288 + co.toNat) * 64 + funct.toNat := by
  have h : (encodeCo funct co).toNat = (16#6 ++ 1#1 ++ co ++ funct).toNat := rfl
  rw [h]; simp only [toNat_append_add]; simp

/-! ## The fields of an encoded word -/

@[simp] theorem opcodeOf_encodeR (funct : BitVec 6) (rs : BitVec 5) (rt : BitVec 5) (rd : BitVec 5) (sa : BitVec 5) : opcodeOf (encodeR funct rs rt rd sa) = 0#6 := by
  apply BitVec.eq_of_toNat_eq
  simp only [opcodeOf_toNat, encodeR_toNat, BitVec.toNat_ofNat]
  have := funct.isLt; have := rs.isLt; have := rt.isLt; have := rd.isLt; have := sa.isLt; omega
@[simp] theorem rsOf_encodeR (funct : BitVec 6) (rs : BitVec 5) (rt : BitVec 5) (rd : BitVec 5) (sa : BitVec 5) : rsOf (encodeR funct rs rt rd sa) = rs := by
  apply BitVec.eq_of_toNat_eq
  simp only [rsOf_toNat, encodeR_toNat]
  have := funct.isLt; have := rs.isLt; have := rt.isLt; have := rd.isLt; have := sa.isLt; omega
@[simp] theorem rtOf_encodeR (funct : BitVec 6) (rs : BitVec 5) (rt : BitVec 5) (rd : BitVec 5) (sa : BitVec 5) : rtOf (encodeR funct rs rt rd sa) = rt := by
  apply BitVec.eq_of_toNat_eq
  simp only [rtOf_toNat, encodeR_toNat]
  have := funct.isLt; have := rs.isLt; have := rt.isLt; have := rd.isLt; have := sa.isLt; omega
@[simp] theorem rdOf_encodeR (funct : BitVec 6) (rs : BitVec 5) (rt : BitVec 5) (rd : BitVec 5) (sa : BitVec 5) : rdOf (encodeR funct rs rt rd sa) = rd := by
  apply BitVec.eq_of_toNat_eq
  simp only [rdOf_toNat, encodeR_toNat]
  have := funct.isLt; have := rs.isLt; have := rt.isLt; have := rd.isLt; have := sa.isLt; omega
@[simp] theorem saOf_encodeR (funct : BitVec 6) (rs : BitVec 5) (rt : BitVec 5) (rd : BitVec 5) (sa : BitVec 5) : saOf (encodeR funct rs rt rd sa) = sa := by
  apply BitVec.eq_of_toNat_eq
  simp only [saOf_toNat, encodeR_toNat]
  have := funct.isLt; have := rs.isLt; have := rt.isLt; have := rd.isLt; have := sa.isLt; omega
@[simp] theorem functOf_encodeR (funct : BitVec 6) (rs : BitVec 5) (rt : BitVec 5) (rd : BitVec 5) (sa : BitVec 5) : functOf (encodeR funct rs rt rd sa) = funct := by
  apply BitVec.eq_of_toNat_eq
  simp only [functOf_toNat, encodeR_toNat]
  have := funct.isLt; have := rs.isLt; have := rt.isLt; have := rd.isLt; have := sa.isLt; omega
@[simp] theorem opcodeOf_encodeI (opcode : BitVec 6) (rs : BitVec 5) (rt : BitVec 5) (imm16 : BitVec 16) : opcodeOf (encodeI opcode rs rt imm16) = opcode := by
  apply BitVec.eq_of_toNat_eq
  simp only [opcodeOf_toNat, encodeI_toNat]
  have := opcode.isLt; have := rs.isLt; have := rt.isLt; have := imm16.isLt; omega
@[simp] theorem rsOf_encodeI (opcode : BitVec 6) (rs : BitVec 5) (rt : BitVec 5) (imm16 : BitVec 16) : rsOf (encodeI opcode rs rt imm16) = rs := by
  apply BitVec.eq_of_toNat_eq
  simp only [rsOf_toNat, encodeI_toNat]
  have := opcode.isLt; have := rs.isLt; have := rt.isLt; have := imm16.isLt; omega
@[simp] theorem rtOf_encodeI (opcode : BitVec 6) (rs : BitVec 5) (rt : BitVec 5) (imm16 : BitVec 16) : rtOf (encodeI opcode rs rt imm16) = rt := by
  apply BitVec.eq_of_toNat_eq
  simp only [rtOf_toNat, encodeI_toNat]
  have := opcode.isLt; have := rs.isLt; have := rt.isLt; have := imm16.isLt; omega
@[simp] theorem imm16Of_encodeI (opcode : BitVec 6) (rs : BitVec 5) (rt : BitVec 5) (imm16 : BitVec 16) : imm16Of (encodeI opcode rs rt imm16) = imm16 := by
  apply BitVec.eq_of_toNat_eq
  simp only [imm16Of_toNat, encodeI_toNat]
  have := opcode.isLt; have := rs.isLt; have := rt.isLt; have := imm16.isLt; omega
@[simp] theorem opcodeOf_encodeJ (opcode : BitVec 6) (target26 : BitVec 26) : opcodeOf (encodeJ opcode target26) = opcode := by
  apply BitVec.eq_of_toNat_eq
  simp only [opcodeOf_toNat, encodeJ_toNat]
  have := opcode.isLt; have := target26.isLt; omega
@[simp] theorem target26Of_encodeJ (opcode : BitVec 6) (target26 : BitVec 26) : target26Of (encodeJ opcode target26) = target26 := by
  apply BitVec.eq_of_toNat_eq
  simp only [target26Of_toNat, encodeJ_toNat]
  have := opcode.isLt; have := target26.isLt; omega
@[simp] theorem opcodeOf_encodeCode (funct : BitVec 6) (code : BitVec 20) : opcodeOf (encodeCode funct code) = 0#6 := by
  apply BitVec.eq_of_toNat_eq
  simp only [opcodeOf_toNat, encodeCode_toNat, BitVec.toNat_ofNat]
  have := funct.isLt; have := code.isLt; omega
@[simp] theorem codeOf_encodeCode (funct : BitVec 6) (code : BitVec 20) : codeOf (encodeCode funct code) = code := by
  apply BitVec.eq_of_toNat_eq
  simp only [codeOf_toNat, encodeCode_toNat]
  have := funct.isLt; have := code.isLt; omega
@[simp] theorem functOf_encodeCode (funct : BitVec 6) (code : BitVec 20) : functOf (encodeCode funct code) = funct := by
  apply BitVec.eq_of_toNat_eq
  simp only [functOf_toNat, encodeCode_toNat]
  have := funct.isLt; have := code.isLt; omega
@[simp] theorem opcodeOf_encodeC0 (rs : BitVec 5) (rt : BitVec 5) (rd : BitVec 5) (low11 : BitVec 11) : opcodeOf (encodeC0 rs rt rd low11) = 16#6 := by
  apply BitVec.eq_of_toNat_eq
  simp only [opcodeOf_toNat, encodeC0_toNat, BitVec.toNat_ofNat]
  have := rs.isLt; have := rt.isLt; have := rd.isLt; have := low11.isLt; omega
@[simp] theorem rsOf_encodeC0 (rs : BitVec 5) (rt : BitVec 5) (rd : BitVec 5) (low11 : BitVec 11) : rsOf (encodeC0 rs rt rd low11) = rs := by
  apply BitVec.eq_of_toNat_eq
  simp only [rsOf_toNat, encodeC0_toNat]
  have := rs.isLt; have := rt.isLt; have := rd.isLt; have := low11.isLt; omega
@[simp] theorem rtOf_encodeC0 (rs : BitVec 5) (rt : BitVec 5) (rd : BitVec 5) (low11 : BitVec 11) : rtOf (encodeC0 rs rt rd low11) = rt := by
  apply BitVec.eq_of_toNat_eq
  simp only [rtOf_toNat, encodeC0_toNat]
  have := rs.isLt; have := rt.isLt; have := rd.isLt; have := low11.isLt; omega
@[simp] theorem rdOf_encodeC0 (rs : BitVec 5) (rt : BitVec 5) (rd : BitVec 5) (low11 : BitVec 11) : rdOf (encodeC0 rs rt rd low11) = rd := by
  apply BitVec.eq_of_toNat_eq
  simp only [rdOf_toNat, encodeC0_toNat]
  have := rs.isLt; have := rt.isLt; have := rd.isLt; have := low11.isLt; omega
@[simp] theorem low11Of_encodeC0 (rs : BitVec 5) (rt : BitVec 5) (rd : BitVec 5) (low11 : BitVec 11) : low11Of (encodeC0 rs rt rd low11) = low11 := by
  apply BitVec.eq_of_toNat_eq
  simp only [low11Of_toNat, encodeC0_toNat]
  have := rs.isLt; have := rt.isLt; have := rd.isLt; have := low11.isLt; omega
@[simp] theorem opcodeOf_encodeCo (funct : BitVec 6) (co : BitVec 19) : opcodeOf (encodeCo funct co) = 16#6 := by
  apply BitVec.eq_of_toNat_eq
  simp only [opcodeOf_toNat, encodeCo_toNat, BitVec.toNat_ofNat]
  have := funct.isLt; have := co.isLt; omega
@[simp] theorem functOf_encodeCo (funct : BitVec 6) (co : BitVec 19) : functOf (encodeCo funct co) = funct := by
  apply BitVec.eq_of_toNat_eq
  simp only [functOf_toNat, encodeCo_toNat]
  have := funct.isLt; have := co.isLt; omega
@[simp] theorem coOf_encodeCo (funct : BitVec 6) (co : BitVec 19) : coOf (encodeCo funct co) = co := by
  apply BitVec.eq_of_toNat_eq
  simp only [coOf_toNat, encodeCo_toNat]
  have := funct.isLt; have := co.isLt; omega

/-- A named word of the CO group has bit 25 set. -/
@[simp] theorem rsOf_encodeCo (funct : BitVec 6) (co : BitVec 19) : (rsOf (encodeCo funct co)).getLsbD 4 = true := by
  rw [rsOf_getLsbD_four, encodeCo_toNat]
  have := funct.isLt; have := co.isLt
  simp only [decide_eq_true_eq]; omega

/-! ## A word from its fields -/

theorem encodeR_fields (w : Word) (h : opcodeOf w = 0#6) : encodeR (functOf w) (rsOf w) (rtOf w) (rdOf w) (saOf w) = w := by
  apply BitVec.eq_of_toNat_eq
  have h := congrArg BitVec.toNat h
  simp only [opcodeOf_toNat, BitVec.toNat_ofNat] at h
  simp only [encodeR_toNat, functOf_toNat, rsOf_toNat, rtOf_toNat, rdOf_toNat, saOf_toNat]
  have := w.isLt; omega
theorem encodeI_fields (w : Word) : encodeI (opcodeOf w) (rsOf w) (rtOf w) (imm16Of w) = w := by
  apply BitVec.eq_of_toNat_eq
  simp only [encodeI_toNat, opcodeOf_toNat, rsOf_toNat, rtOf_toNat, imm16Of_toNat]
  have := w.isLt; omega
theorem encodeJ_fields (w : Word) : encodeJ (opcodeOf w) (target26Of w) = w := by
  apply BitVec.eq_of_toNat_eq
  simp only [encodeJ_toNat, opcodeOf_toNat, target26Of_toNat]
  have := w.isLt; omega
theorem encodeCode_fields (w : Word) (h : opcodeOf w = 0#6) : encodeCode (functOf w) (codeOf w) = w := by
  apply BitVec.eq_of_toNat_eq
  have h := congrArg BitVec.toNat h
  simp only [opcodeOf_toNat, BitVec.toNat_ofNat] at h
  simp only [encodeCode_toNat, functOf_toNat, codeOf_toNat]
  have := w.isLt; omega
theorem encodeC0_fields (w : Word) (h : opcodeOf w = 16#6) : encodeC0 (rsOf w) (rtOf w) (rdOf w) (low11Of w) = w := by
  apply BitVec.eq_of_toNat_eq
  have h := congrArg BitVec.toNat h
  simp only [opcodeOf_toNat, BitVec.toNat_ofNat] at h
  simp only [encodeC0_toNat, rsOf_toNat, rtOf_toNat, rdOf_toNat, low11Of_toNat]
  have := w.isLt; omega
theorem encodeCo_fields (w : Word) (h : opcodeOf w = 16#6) (hb : (rsOf w).getLsbD 4 = true) : encodeCo (functOf w) (coOf w) = w := by
  apply BitVec.eq_of_toNat_eq
  have h := congrArg BitVec.toNat h
  rw [rsOf_getLsbD_four, decide_eq_true_eq] at hb
  simp only [opcodeOf_toNat, BitVec.toNat_ofNat] at h
  simp only [encodeCo_toNat, functOf_toNat, coOf_toNat]
  have := w.isLt; omega

/-! ## The masks of the opcode table (30_encoding.md R79) -/

/-- The mask of a primary row keeps the opcode. -/
theorem and_primaryMask (w : Word) : w &&& 0xFC000000 = opcodeOf w ++ 0#26 := by
  apply BitVec.eq_of_getLsbD_eq
  intro i hi
  simp only [opcodeOf, BitVec.getLsbD_and, BitVec.getLsbD_append, BitVec.getLsbD_extractLsb']
  interval_cases i <;> simp

/-- The mask of a coprocessor-0 row keeps the opcode and `rs`. -/
theorem and_cop0Mask (w : Word) : w &&& 0xFFE00000 = opcodeOf w ++ rsOf w ++ 0#21 := by
  apply BitVec.eq_of_getLsbD_eq
  intro i hi
  simp only [opcodeOf, rsOf, BitVec.getLsbD_and, BitVec.getLsbD_append, BitVec.getLsbD_extractLsb']
  interval_cases i <;> simp

/-- The mask of a SPECIAL row keeps the opcode and `funct`. -/
theorem and_specialMask (w : Word) : w &&& 0xFC00003F = opcodeOf w ++ 0#20 ++ functOf w := by
  apply BitVec.eq_of_getLsbD_eq
  intro i hi
  simp only [opcodeOf, functOf, BitVec.getLsbD_and, BitVec.getLsbD_append, BitVec.getLsbD_extractLsb']
  interval_cases i <;> simp

/-- The mask of a REGIMM row keeps the opcode and `rt`. -/
theorem and_regimmMask (w : Word) : w &&& 0xFC1F0000 = opcodeOf w ++ 0#5 ++ rtOf w ++ 0#16 := by
  apply BitVec.eq_of_getLsbD_eq
  intro i hi
  simp only [opcodeOf, rtOf, BitVec.getLsbD_and, BitVec.getLsbD_append, BitVec.getLsbD_extractLsb']
  interval_cases i <;> simp

/-- The mask of a named CO row keeps the opcode, bit 25 and `funct`. -/
theorem and_coMask (w : Word) : w &&& 0xFE00003F = opcodeOf w ++ BitVec.ofBool ((rsOf w).getLsbD 4) ++ 0#19 ++ functOf w := by
  apply BitVec.eq_of_getLsbD_eq
  intro i hi
  simp only [opcodeOf, functOf, rsOf, BitVec.getLsbD_and, BitVec.getLsbD_append, BitVec.getLsbD_extractLsb']
  interval_cases i <;> simp

/-! ## Which table decodes a word that a row selects -/

/-- Equal top parts of two concatenations. -/
theorem append_left_inj {n m : Nat} {x x' : BitVec n} {y y' : BitVec m} (h : x ++ y = x' ++ y') : x = x' := by
  have h' := congrArg (fun v => v.toNat / 2 ^ m) h
  simp only [toNat_append_add, Nat.mul_add_div (Nat.two_pow_pos m), Nat.mul_comm _ (2 ^ m), Nat.div_eq_of_lt y.isLt,
    Nat.div_eq_of_lt y'.isLt, Nat.add_zero] at h'
  exact BitVec.eq_of_toNat_eq h'

/-- Equal bottom parts of two concatenations. -/
theorem append_right_inj {n m : Nat} {x x' : BitVec n} {y y' : BitVec m} (h : x ++ y = x' ++ y') : y = y' := by
  have h' := congrArg BitVec.toNat h
  rw [toNat_append_add, toNat_append_add, append_left_inj h] at h'
  exact BitVec.eq_of_toNat_eq (by omega)

theorem decode_of_primary {w : Word} {op : BitVec 6} (h : w &&& 0xFC000000 = op ++ 0#26) : decode w = decodePrimary op w := by
  rw [and_primaryMask] at h
  rw [decode, append_left_inj h]

theorem decode_of_special {w : Word} {f : BitVec 6} (h : w &&& 0xFC00003F = 0#6 ++ 0#20 ++ f) :
    decode w = decodeSpecial f w := by
  rw [and_specialMask] at h
  rw [decode, append_left_inj (append_left_inj h), ← append_right_inj h]; rfl

theorem decode_of_regimm {w : Word} {rt : RegId} (h : w &&& 0xFC1F0000 = 1#6 ++ 0#5 ++ rt ++ 0#16) :
    decode w = decodeRegimm rt w := by
  rw [and_regimmMask] at h
  have h' := append_left_inj h
  rw [decode, append_left_inj (append_left_inj h'), ← append_right_inj h']; rfl

theorem decode_of_cop0 {w : Word} {rs : RegId} (h : w &&& 0xFFE00000 = 16#6 ++ rs ++ 0#21) :
    decode w = decodeCop0 rs w := by
  rw [and_cop0Mask] at h
  have h' := append_left_inj h
  rw [decode, append_left_inj h', ← append_right_inj h']; rfl

theorem decode_of_co {w : Word} {f : BitVec 6} (h : w &&& 0xFE00003F = 16#6 ++ BitVec.ofBool true ++ 0#19 ++ f) :
    decode w = decodeCo f w := by
  rw [and_coMask] at h
  have h' := append_left_inj (append_left_inj h)
  have hb : (rsOf w).getLsbD 4 = true := by
    have := append_right_inj h'
    cases hc : (rsOf w).getLsbD 4
    · rw [hc] at this; cases this
    · rfl
  rw [decode, append_left_inj h', ← append_right_inj h]
  exact if_pos hb

/-! ## Which table decodes an encoded word -/

theorem decode_encodeI (opcode : BitVec 6) (rs rt : RegId) (imm16 : BitVec 16) :
    decode (encodeI opcode rs rt imm16) = decodePrimary opcode (encodeI opcode rs rt imm16) := by rw [decode, opcodeOf_encodeI]

theorem decode_encodeJ (opcode : BitVec 6) (target26 : BitVec 26) :
    decode (encodeJ opcode target26) = decodePrimary opcode (encodeJ opcode target26) := by rw [decode, opcodeOf_encodeJ]

theorem decode_encodeR (funct : BitVec 6) (rs rt rd : RegId) (sa : BitVec 5) :
    decode (encodeR funct rs rt rd sa) = decodeSpecial funct (encodeR funct rs rt rd sa) := by
  rw [decode, opcodeOf_encodeR]; show decodeSpecial (functOf _) _ = _; rw [functOf_encodeR]

theorem decode_encodeCode (funct : BitVec 6) (code : BitVec 20) :
    decode (encodeCode funct code) = decodeSpecial funct (encodeCode funct code) := by
  rw [decode, opcodeOf_encodeCode]; show decodeSpecial (functOf _) _ = _; rw [functOf_encodeCode]

theorem decode_encodeI_regimm (rs rt : RegId) (imm16 : BitVec 16) :
    decode (encodeI 1 rs rt imm16) = decodeRegimm rt (encodeI 1 rs rt imm16) := by
  rw [decode, opcodeOf_encodeI]; show decodeRegimm (rtOf _) _ = _; rw [rtOf_encodeI]

theorem decode_encodeI_cop0 (rs rt : RegId) (imm16 : BitVec 16) :
    decode (encodeI 16 rs rt imm16) = decodeCop0 rs (encodeI 16 rs rt imm16) := by
  rw [decode, opcodeOf_encodeI]; show decodeCop0 (rsOf _) _ = _; rw [rsOf_encodeI]

theorem decode_encodeC0 (rs rt rd : RegId) (low11 : BitVec 11) :
    decode (encodeC0 rs rt rd low11) = decodeCop0 rs (encodeC0 rs rt rd low11) := by
  rw [decode, opcodeOf_encodeC0]; show decodeCop0 (rsOf _) _ = _; rw [rsOf_encodeC0]

theorem decode_encodeCo (funct : BitVec 6) (co : BitVec 19) :
    decode (encodeCo funct co) = decodeCo funct (encodeCo funct co) := by
  rw [decode, opcodeOf_encodeCo]
  show (if (rsOf _).getLsbD 4 then decodeCo (functOf _) _ else _) = _
  rw [rsOf_encodeCo, functOf_encodeCo]; rfl

/-! ## Bytes -/

/-- The bytes of an encoded instruction decode as its word does. -/
theorem decodeBytes_word (w : Word) (rest : List Byte) :
    decodeBytes (byteOfWord w 0 :: byteOfWord w 1 :: byteOfWord w 2 :: byteOfWord w 3 :: rest) =
      (decode (wordOfBytes (byteOfWord w 0) (byteOfWord w 1) (byteOfWord w 2) (byteOfWord w 3))).map fun i => (i, rest) := by
  simp only [decodeBytes, Except.map]
  split <;> simp_all

end Sys2Proof
end

