-- ==== Sys2Proof/Laws/State.lean ====
section
/-! SUPPORT. Laws of State: one lemma per field per update, so that no later proof unfolds a record update. -/

namespace Sys2Proof.Machine

variable (s : State)

/-! ## `setX` -/

@[simp] theorem setX_c0 (r : RegId) (v : DWord) : (s.setX r v).c0 = s.c0 := rfl
@[simp] theorem setX_hi (r : RegId) (v : DWord) : (s.setX r v).hi = s.hi := rfl
@[simp] theorem setX_lo (r : RegId) (v : DWord) : (s.setX r v).lo = s.lo := rfl
@[simp] theorem setX_pc (r : RegId) (v : DWord) : (s.setX r v).pc = s.pc := rfl
@[simp] theorem setX_delayPC (r : RegId) (v : DWord) : (s.setX r v).delayPC = s.delayPC := rfl
@[simp] theorem setX_halt (r : RegId) (v : DWord) : (s.setX r v).halt = s.halt := rfl
@[simp] theorem setX_opsExecuted (r : RegId) (v : DWord) : (s.setX r v).opsExecuted = s.opsExecuted := rfl
@[simp] theorem setX_mem (r : RegId) (v : DWord) : (s.setX r v).mem = s.mem := rfl
@[simp] theorem setX_answers (r : RegId) (v : DWord) : (s.setX r v).answers = s.answers := rfl
@[simp] theorem setX_settled (r : RegId) (v : DWord) : (s.setX r v).settled = s.settled := rfl
@[simp] theorem setX_params (r : RegId) (v : DWord) : (s.setX r v).params = s.params := rfl
@[simp] theorem setX_out (r : RegId) (v : DWord) : (s.setX r v).out = s.out := rfl
@[simp] theorem setX_getC0 (r q : RegId) (v : DWord) : (s.setX r v).getC0 q = s.getC0 q := rfl

/-- A write to a general register is read back, and changes no other (10_state.md R12, R13). -/
theorem setX_getX (r q : RegId) (v : DWord) : (s.setX r v).getX q = if q = r then v else s.getX q := by
  by_cases h : q = r
  · subst h; simp [State.getX, State.setX]
  · have hne : r.toNat ≠ q.toNat := fun e => h (BitVec.eq_of_toNat_eq e.symm)
    simp [State.getX, State.setX, h, Vector.getElem_set_ne _ _ hne]
@[simp] theorem setX_getX_same (r : RegId) (v : DWord) : (s.setX r v).getX r = v := by simp [setX_getX]
@[simp] theorem setX_getX_ne (r q : RegId) (v : DWord) (h : q ≠ r) : (s.setX r v).getX q = s.getX q := by
  simp [setX_getX, h]

/-! ## `setC0` -/

@[simp] theorem setC0_x (r : RegId) (v : Word) : (s.setC0 r v).x = s.x := rfl
@[simp] theorem setC0_hi (r : RegId) (v : Word) : (s.setC0 r v).hi = s.hi := rfl
@[simp] theorem setC0_lo (r : RegId) (v : Word) : (s.setC0 r v).lo = s.lo := rfl
@[simp] theorem setC0_pc (r : RegId) (v : Word) : (s.setC0 r v).pc = s.pc := rfl
@[simp] theorem setC0_delayPC (r : RegId) (v : Word) : (s.setC0 r v).delayPC = s.delayPC := rfl
@[simp] theorem setC0_halt (r : RegId) (v : Word) : (s.setC0 r v).halt = s.halt := rfl
@[simp] theorem setC0_opsExecuted (r : RegId) (v : Word) : (s.setC0 r v).opsExecuted = s.opsExecuted := rfl
@[simp] theorem setC0_mem (r : RegId) (v : Word) : (s.setC0 r v).mem = s.mem := rfl
@[simp] theorem setC0_answers (r : RegId) (v : Word) : (s.setC0 r v).answers = s.answers := rfl
@[simp] theorem setC0_settled (r : RegId) (v : Word) : (s.setC0 r v).settled = s.settled := rfl
@[simp] theorem setC0_params (r : RegId) (v : Word) : (s.setC0 r v).params = s.params := rfl
@[simp] theorem setC0_out (r : RegId) (v : Word) : (s.setC0 r v).out = s.out := rfl
@[simp] theorem setC0_getX (r q : RegId) (v : Word) : (s.setC0 r v).getX q = s.getX q := rfl

/-- A write to a control register is read back, and changes no other (45_cop0_system.md R222). -/
theorem setC0_getC0 (r q : RegId) (v : Word) : (s.setC0 r v).getC0 q = if q = r then v else s.getC0 q := by
  by_cases h : q = r
  · subst h; simp [State.getC0, State.setC0]
  · have hne : r.toNat ≠ q.toNat := fun e => h (BitVec.eq_of_toNat_eq e.symm)
    simp [State.getC0, State.setC0, h, Vector.getElem_set_ne _ _ hne]
@[simp] theorem setC0_getC0_same (r : RegId) (v : Word) : (s.setC0 r v).getC0 r = v := by simp [setC0_getC0]
@[simp] theorem setC0_getC0_ne (r q : RegId) (v : Word) (h : q ≠ r) : (s.setC0 r v).getC0 q = s.getC0 q := by
  simp [setC0_getC0, h]

/-! ## `setHiLo` -/

@[simp] theorem setHiLo_x (h l : DWord) : (s.setHiLo h l).x = s.x := rfl
@[simp] theorem setHiLo_c0 (h l : DWord) : (s.setHiLo h l).c0 = s.c0 := rfl
@[simp] theorem setHiLo_hi (h l : DWord) : (s.setHiLo h l).hi = h := rfl
@[simp] theorem setHiLo_lo (h l : DWord) : (s.setHiLo h l).lo = l := rfl
@[simp] theorem setHiLo_pc (h l : DWord) : (s.setHiLo h l).pc = s.pc := rfl
@[simp] theorem setHiLo_delayPC (h l : DWord) : (s.setHiLo h l).delayPC = s.delayPC := rfl
@[simp] theorem setHiLo_halt (h l : DWord) : (s.setHiLo h l).halt = s.halt := rfl
@[simp] theorem setHiLo_opsExecuted (h l : DWord) : (s.setHiLo h l).opsExecuted = s.opsExecuted := rfl
@[simp] theorem setHiLo_mem (h l : DWord) : (s.setHiLo h l).mem = s.mem := rfl
@[simp] theorem setHiLo_answers (h l : DWord) : (s.setHiLo h l).answers = s.answers := rfl
@[simp] theorem setHiLo_settled (h l : DWord) : (s.setHiLo h l).settled = s.settled := rfl
@[simp] theorem setHiLo_params (h l : DWord) : (s.setHiLo h l).params = s.params := rfl
@[simp] theorem setHiLo_out (h l : DWord) : (s.setHiLo h l).out = s.out := rfl
@[simp] theorem setHiLo_getX (h l : DWord) (q : RegId) : (s.setHiLo h l).getX q = s.getX q := rfl
@[simp] theorem setHiLo_getC0 (h l : DWord) (q : RegId) : (s.setHiLo h l).getC0 q = s.getC0 q := rfl

/-! ## `setProduct` -/

@[simp] theorem setProduct_x (v : DWord) : (s.setProduct v).x = s.x := rfl
@[simp] theorem setProduct_c0 (v : DWord) : (s.setProduct v).c0 = s.c0 := rfl
@[simp] theorem setProduct_hi (v : DWord) : (s.setProduct v).hi = sext64 (v.extractLsb' 32 32) := rfl
@[simp] theorem setProduct_lo (v : DWord) : (s.setProduct v).lo = sext64 (v.extractLsb' 0 32) := rfl
@[simp] theorem setProduct_pc (v : DWord) : (s.setProduct v).pc = s.pc := rfl
@[simp] theorem setProduct_delayPC (v : DWord) : (s.setProduct v).delayPC = s.delayPC := rfl
@[simp] theorem setProduct_halt (v : DWord) : (s.setProduct v).halt = s.halt := rfl
@[simp] theorem setProduct_opsExecuted (v : DWord) : (s.setProduct v).opsExecuted = s.opsExecuted := rfl
@[simp] theorem setProduct_mem (v : DWord) : (s.setProduct v).mem = s.mem := rfl
@[simp] theorem setProduct_answers (v : DWord) : (s.setProduct v).answers = s.answers := rfl
@[simp] theorem setProduct_settled (v : DWord) : (s.setProduct v).settled = s.settled := rfl
@[simp] theorem setProduct_params (v : DWord) : (s.setProduct v).params = s.params := rfl
@[simp] theorem setProduct_out (v : DWord) : (s.setProduct v).out = s.out := rfl
@[simp] theorem setProduct_getX (v : DWord) (q : RegId) : (s.setProduct v).getX q = s.getX q := rfl
@[simp] theorem setProduct_getC0 (v : DWord) (q : RegId) : (s.setProduct v).getC0 q = s.getC0 q := rfl

/-! ## `setMem` -/

@[simp] theorem setMem_x (m : Memory) : (s.setMem m).x = s.x := rfl
@[simp] theorem setMem_c0 (m : Memory) : (s.setMem m).c0 = s.c0 := rfl
@[simp] theorem setMem_hi (m : Memory) : (s.setMem m).hi = s.hi := rfl
@[simp] theorem setMem_lo (m : Memory) : (s.setMem m).lo = s.lo := rfl
@[simp] theorem setMem_pc (m : Memory) : (s.setMem m).pc = s.pc := rfl
@[simp] theorem setMem_delayPC (m : Memory) : (s.setMem m).delayPC = s.delayPC := rfl
@[simp] theorem setMem_halt (m : Memory) : (s.setMem m).halt = s.halt := rfl
@[simp] theorem setMem_opsExecuted (m : Memory) : (s.setMem m).opsExecuted = s.opsExecuted := rfl
@[simp] theorem setMem_mem (m : Memory) : (s.setMem m).mem = m := rfl
@[simp] theorem setMem_answers (m : Memory) : (s.setMem m).answers = s.answers := rfl
@[simp] theorem setMem_settled (m : Memory) : (s.setMem m).settled = s.settled := rfl
@[simp] theorem setMem_params (m : Memory) : (s.setMem m).params = s.params := rfl
@[simp] theorem setMem_out (m : Memory) : (s.setMem m).out = s.out := rfl
@[simp] theorem setMem_getX (m : Memory) (q : RegId) : (s.setMem m).getX q = s.getX q := rfl
@[simp] theorem setMem_getC0 (m : Memory) (q : RegId) : (s.setMem m).getC0 q = s.getC0 q := rfl

/-! ## `capture` -/

@[simp] theorem capture_x (k : FaultKind) (w : Option Word) : (s.capture k w).x = s.x := rfl
@[simp] theorem capture_c0 (k : FaultKind) (w : Option Word) : (s.capture k w).c0 = s.c0 := rfl
@[simp] theorem capture_hi (k : FaultKind) (w : Option Word) : (s.capture k w).hi = s.hi := rfl
@[simp] theorem capture_lo (k : FaultKind) (w : Option Word) : (s.capture k w).lo = s.lo := rfl
@[simp] theorem capture_pc (k : FaultKind) (w : Option Word) : (s.capture k w).pc = s.pc := rfl
@[simp] theorem capture_delayPC (k : FaultKind) (w : Option Word) : (s.capture k w).delayPC = s.delayPC := rfl
@[simp] theorem capture_halt (k : FaultKind) (w : Option Word) : (s.capture k w).halt = true := rfl
@[simp] theorem capture_opsExecuted (k : FaultKind) (w : Option Word) : (s.capture k w).opsExecuted = s.opsExecuted := rfl
@[simp] theorem capture_mem (k : FaultKind) (w : Option Word) : (s.capture k w).mem = s.mem := rfl
@[simp] theorem capture_answers (k : FaultKind) (w : Option Word) : (s.capture k w).answers = s.answers := rfl
@[simp] theorem capture_settled (k : FaultKind) (w : Option Word) : (s.capture k w).settled = s.settled := rfl
@[simp] theorem capture_params (k : FaultKind) (w : Option Word) : (s.capture k w).params = s.params := rfl
@[simp] theorem capture_out (k : FaultKind) (w : Option Word) : (s.capture k w).out = { s.out with diagnostics := ⟨k, s.pc, w⟩ :: s.out.diagnostics } := rfl
@[simp] theorem capture_getX (k : FaultKind) (w : Option Word) (q : RegId) : (s.capture k w).getX q = s.getX q := rfl
@[simp] theorem capture_getC0 (k : FaultKind) (w : Option Word) (q : RegId) : (s.capture k w).getC0 q = s.getC0 q := rfl

/-! ## `called` -/

@[simp] theorem called_x (c : PortCall) : (s.called c).x = s.x := rfl
@[simp] theorem called_c0 (c : PortCall) : (s.called c).c0 = s.c0 := rfl
@[simp] theorem called_hi (c : PortCall) : (s.called c).hi = s.hi := rfl
@[simp] theorem called_lo (c : PortCall) : (s.called c).lo = s.lo := rfl
@[simp] theorem called_pc (c : PortCall) : (s.called c).pc = s.pc := rfl
@[simp] theorem called_delayPC (c : PortCall) : (s.called c).delayPC = s.delayPC := rfl
@[simp] theorem called_halt (c : PortCall) : (s.called c).halt = s.halt := rfl
@[simp] theorem called_opsExecuted (c : PortCall) : (s.called c).opsExecuted = s.opsExecuted := rfl
@[simp] theorem called_mem (c : PortCall) : (s.called c).mem = s.mem := rfl
@[simp] theorem called_answers (c : PortCall) : (s.called c).answers = s.answers.tail := rfl
@[simp] theorem called_settled (c : PortCall) : (s.called c).settled = s.settledAfter c := rfl
@[simp] theorem called_params (c : PortCall) : (s.called c).params = s.params := rfl
@[simp] theorem called_out (c : PortCall) : (s.called c).out = { s.out with portCalls := c :: s.out.portCalls } := rfl
@[simp] theorem called_getX (c : PortCall) (q : RegId) : (s.called c).getX q = s.getX q := rfl
@[simp] theorem called_getC0 (c : PortCall) (q : RegId) : (s.called c).getC0 q = s.getC0 q := rfl

/-! ## `link` -/

@[simp] theorem link_c0 : (s.link).c0 = s.c0 := rfl
@[simp] theorem link_hi : (s.link).hi = s.hi := rfl
@[simp] theorem link_lo : (s.link).lo = s.lo := rfl
@[simp] theorem link_pc : (s.link).pc = s.pc := rfl
@[simp] theorem link_delayPC : (s.link).delayPC = s.delayPC := rfl
@[simp] theorem link_halt : (s.link).halt = s.halt := rfl
@[simp] theorem link_opsExecuted : (s.link).opsExecuted = s.opsExecuted := rfl
@[simp] theorem link_mem : (s.link).mem = s.mem := rfl
@[simp] theorem link_answers : (s.link).answers = s.answers := rfl
@[simp] theorem link_settled : (s.link).settled = s.settled := rfl
@[simp] theorem link_params : (s.link).params = s.params := rfl
@[simp] theorem link_out : (s.link).out = s.out := rfl
@[simp] theorem link_getC0 (q : RegId) : s.link.getC0 q = s.getC0 q := rfl
theorem link_getX (q : RegId) : s.link.getX q = if q = linkReg then linkValue s.pc else s.getX q := by
  rw [State.link, setX_getX]
@[simp] theorem link_getX_same : s.link.getX linkReg = linkValue s.pc := by simp [link_getX]
@[simp] theorem link_getX_ne (q : RegId) (h : q ≠ linkReg) : s.link.getX q = s.getX q := by simp [link_getX, h]

/-! ## `updatePC` -/

@[simp] theorem updatePC_x (p d : Word) (annul : Bool) : (s.updatePC p d annul).x = s.x := by unfold State.updatePC; split <;> [rfl; (split <;> rfl)]
@[simp] theorem updatePC_c0 (p d : Word) (annul : Bool) : (s.updatePC p d annul).c0 = s.c0 := by unfold State.updatePC; split <;> [rfl; (split <;> rfl)]
@[simp] theorem updatePC_hi (p d : Word) (annul : Bool) : (s.updatePC p d annul).hi = s.hi := by unfold State.updatePC; split <;> [rfl; (split <;> rfl)]
@[simp] theorem updatePC_lo (p d : Word) (annul : Bool) : (s.updatePC p d annul).lo = s.lo := by unfold State.updatePC; split <;> [rfl; (split <;> rfl)]
@[simp] theorem updatePC_halt (p d : Word) (annul : Bool) : (s.updatePC p d annul).halt = s.halt := by unfold State.updatePC; split <;> [rfl; (split <;> rfl)]
@[simp] theorem updatePC_opsExecuted (p d : Word) (annul : Bool) : (s.updatePC p d annul).opsExecuted = s.opsExecuted := by unfold State.updatePC; split <;> [rfl; (split <;> rfl)]
@[simp] theorem updatePC_mem (p d : Word) (annul : Bool) : (s.updatePC p d annul).mem = s.mem := by unfold State.updatePC; split <;> [rfl; (split <;> rfl)]
@[simp] theorem updatePC_answers (p d : Word) (annul : Bool) : (s.updatePC p d annul).answers = s.answers := by unfold State.updatePC; split <;> [rfl; (split <;> rfl)]
@[simp] theorem updatePC_settled (p d : Word) (annul : Bool) : (s.updatePC p d annul).settled = s.settled := by unfold State.updatePC; split <;> [rfl; (split <;> rfl)]
@[simp] theorem updatePC_params (p d : Word) (annul : Bool) : (s.updatePC p d annul).params = s.params := by unfold State.updatePC; split <;> [rfl; (split <;> rfl)]
@[simp] theorem updatePC_out (p d : Word) (annul : Bool) : (s.updatePC p d annul).out = s.out := by unfold State.updatePC; split <;> [rfl; (split <;> rfl)]
@[simp] theorem updatePC_getX (p d : Word) (annul : Bool) (q : RegId) : (s.updatePC p d annul).getX q = s.getX q := by simp [State.getX]
@[simp] theorem updatePC_getC0 (p d : Word) (annul : Bool) (q : RegId) : (s.updatePC p d annul).getC0 q = s.getC0 q := by simp [State.getC0]
theorem updatePC_pc (p d : Word) (annul : Bool) :
    (s.updatePC p d annul).pc = if d ≠ 0 then d else if annul then p + 8 else p + 4 := by
  unfold State.updatePC; split <;> [rfl; (split <;> rfl)]
theorem updatePC_delayPC (p d : Word) (annul : Bool) :
    (s.updatePC p d annul).delayPC = if d ≠ 0 then 0 else s.delayPC := by
  unfold State.updatePC; split <;> [rfl; (split <;> rfl)]

/-! ## `countOp` -/

@[simp] theorem countOp_x : (s.countOp).x = s.x := rfl
@[simp] theorem countOp_c0 : (s.countOp).c0 = s.c0 := rfl
@[simp] theorem countOp_hi : (s.countOp).hi = s.hi := rfl
@[simp] theorem countOp_lo : (s.countOp).lo = s.lo := rfl
@[simp] theorem countOp_pc : (s.countOp).pc = s.pc := rfl
@[simp] theorem countOp_delayPC : (s.countOp).delayPC = s.delayPC := rfl
@[simp] theorem countOp_halt : (s.countOp).halt = s.halt := rfl
@[simp] theorem countOp_opsExecuted : (s.countOp).opsExecuted = s.opsExecuted + 1 := rfl
@[simp] theorem countOp_mem : (s.countOp).mem = s.mem := rfl
@[simp] theorem countOp_answers : (s.countOp).answers = s.answers := rfl
@[simp] theorem countOp_settled : (s.countOp).settled = s.settled := rfl
@[simp] theorem countOp_params : (s.countOp).params = s.params := rfl
@[simp] theorem countOp_out : (s.countOp).out = s.out := rfl
@[simp] theorem countOp_getX (q : RegId) : (s.countOp).getX q = s.getX q := rfl
@[simp] theorem countOp_getC0 (q : RegId) : (s.countOp).getC0 q = s.getC0 q := rfl

/-! ## `advanced` -/

@[simp] theorem advanced_x : (s.advanced).x = s.x := rfl
@[simp] theorem advanced_c0 : (s.advanced).c0 = s.c0 := rfl
@[simp] theorem advanced_hi : (s.advanced).hi = s.hi := rfl
@[simp] theorem advanced_lo : (s.advanced).lo = s.lo := rfl
@[simp] theorem advanced_pc : (s.advanced).pc = if s.delayPC = 0 then s.pc + 4 else s.delayPC := rfl
@[simp] theorem advanced_delayPC : (s.advanced).delayPC = 0 := rfl
@[simp] theorem advanced_halt : (s.advanced).halt = s.halt := rfl
@[simp] theorem advanced_opsExecuted : (s.advanced).opsExecuted = s.opsExecuted + 1 := rfl
@[simp] theorem advanced_mem : (s.advanced).mem = s.mem := rfl
@[simp] theorem advanced_answers : (s.advanced).answers = s.answers := rfl
@[simp] theorem advanced_settled : (s.advanced).settled = s.settled := rfl
@[simp] theorem advanced_params : (s.advanced).params = s.params := rfl
@[simp] theorem advanced_out : (s.advanced).out = s.out := rfl
@[simp] theorem advanced_getX (q : RegId) : (s.advanced).getX q = s.getX q := rfl
@[simp] theorem advanced_getC0 (q : RegId) : (s.advanced).getC0 q = s.getC0 q := rfl

/-! ## `scheduled` -/

@[simp] theorem scheduled_x (t : Word) : (s.scheduled t).x = s.x := rfl
@[simp] theorem scheduled_c0 (t : Word) : (s.scheduled t).c0 = s.c0 := rfl
@[simp] theorem scheduled_hi (t : Word) : (s.scheduled t).hi = s.hi := rfl
@[simp] theorem scheduled_lo (t : Word) : (s.scheduled t).lo = s.lo := rfl
@[simp] theorem scheduled_pc (t : Word) : (s.scheduled t).pc = s.pc + 4 := rfl
@[simp] theorem scheduled_delayPC (t : Word) : (s.scheduled t).delayPC = t := rfl
@[simp] theorem scheduled_halt (t : Word) : (s.scheduled t).halt = s.halt := rfl
@[simp] theorem scheduled_opsExecuted (t : Word) : (s.scheduled t).opsExecuted = s.opsExecuted + 1 := rfl
@[simp] theorem scheduled_mem (t : Word) : (s.scheduled t).mem = s.mem := rfl
@[simp] theorem scheduled_answers (t : Word) : (s.scheduled t).answers = s.answers := rfl
@[simp] theorem scheduled_settled (t : Word) : (s.scheduled t).settled = s.settled := rfl
@[simp] theorem scheduled_params (t : Word) : (s.scheduled t).params = s.params := rfl
@[simp] theorem scheduled_out (t : Word) : (s.scheduled t).out = s.out := rfl
@[simp] theorem scheduled_getX (t : Word) (q : RegId) : (s.scheduled t).getX q = s.getX q := rfl
@[simp] theorem scheduled_getC0 (t : Word) (q : RegId) : (s.scheduled t).getC0 q = s.getC0 q := rfl

/-! ## `annulled` -/

@[simp] theorem annulled_x : (s.annulled).x = s.x := rfl
@[simp] theorem annulled_c0 : (s.annulled).c0 = s.c0 := rfl
@[simp] theorem annulled_hi : (s.annulled).hi = s.hi := rfl
@[simp] theorem annulled_lo : (s.annulled).lo = s.lo := rfl
@[simp] theorem annulled_pc : (s.annulled).pc = s.pc + 8 := rfl
@[simp] theorem annulled_delayPC : (s.annulled).delayPC = s.delayPC := rfl
@[simp] theorem annulled_halt : (s.annulled).halt = s.halt := rfl
@[simp] theorem annulled_opsExecuted : (s.annulled).opsExecuted = s.opsExecuted + 1 := rfl
@[simp] theorem annulled_mem : (s.annulled).mem = s.mem := rfl
@[simp] theorem annulled_answers : (s.annulled).answers = s.answers := rfl
@[simp] theorem annulled_settled : (s.annulled).settled = s.settled := rfl
@[simp] theorem annulled_params : (s.annulled).params = s.params := rfl
@[simp] theorem annulled_out : (s.annulled).out = s.out := rfl
@[simp] theorem annulled_getX (q : RegId) : (s.annulled).getX q = s.getX q := rfl
@[simp] theorem annulled_getC0 (q : RegId) : (s.annulled).getC0 q = s.getC0 q := rfl

/-! ## `placeFetchWord` -/

@[simp] theorem placeFetchWord_x (w : Word) : (placeFetchWord s w).x = s.x := rfl
@[simp] theorem placeFetchWord_c0 (w : Word) : (placeFetchWord s w).c0 = s.c0 := rfl
@[simp] theorem placeFetchWord_hi (w : Word) : (placeFetchWord s w).hi = s.hi := rfl
@[simp] theorem placeFetchWord_lo (w : Word) : (placeFetchWord s w).lo = s.lo := rfl
@[simp] theorem placeFetchWord_pc (w : Word) : (placeFetchWord s w).pc = s.pc := rfl
@[simp] theorem placeFetchWord_delayPC (w : Word) : (placeFetchWord s w).delayPC = s.delayPC := rfl
@[simp] theorem placeFetchWord_halt (w : Word) : (placeFetchWord s w).halt = false := rfl
@[simp] theorem placeFetchWord_opsExecuted (w : Word) : (placeFetchWord s w).opsExecuted = s.opsExecuted := rfl
@[simp] theorem placeFetchWord_mem (w : Word) : (placeFetchWord s w).mem = s.mem.writeWord s.pc w := rfl
@[simp] theorem placeFetchWord_answers (w : Word) : (placeFetchWord s w).answers = [] := rfl
@[simp] theorem placeFetchWord_settled (w : Word) : (placeFetchWord s w).settled = s.settled := rfl
@[simp] theorem placeFetchWord_params (w : Word) : (placeFetchWord s w).params = s.params := rfl
@[simp] theorem placeFetchWord_out (w : Word) : (placeFetchWord s w).out = s.out := rfl
@[simp] theorem placeFetchWord_getX (w : Word) (q : RegId) : (placeFetchWord s w).getX q = s.getX q := rfl
@[simp] theorem placeFetchWord_getC0 (w : Word) (q : RegId) : (placeFetchWord s w).getC0 q = s.getC0 q := rfl

/-! ## `requestHalt` -/

@[simp] theorem requestHalt_x : (s.requestHalt).x = s.x := rfl
@[simp] theorem requestHalt_c0 : (s.requestHalt).c0 = s.c0 := rfl
@[simp] theorem requestHalt_hi : (s.requestHalt).hi = s.hi := rfl
@[simp] theorem requestHalt_lo : (s.requestHalt).lo = s.lo := rfl
@[simp] theorem requestHalt_pc : (s.requestHalt).pc = s.pc := rfl
@[simp] theorem requestHalt_delayPC : (s.requestHalt).delayPC = s.delayPC := rfl
@[simp] theorem requestHalt_halt : (s.requestHalt).halt = true := rfl
@[simp] theorem requestHalt_opsExecuted : (s.requestHalt).opsExecuted = s.opsExecuted := rfl
@[simp] theorem requestHalt_mem : (s.requestHalt).mem = s.mem := rfl
@[simp] theorem requestHalt_answers : (s.requestHalt).answers = s.answers := rfl
@[simp] theorem requestHalt_settled : (s.requestHalt).settled = s.settled := rfl
@[simp] theorem requestHalt_params : (s.requestHalt).params = s.params := rfl
@[simp] theorem requestHalt_out : (s.requestHalt).out = s.out := rfl
@[simp] theorem requestHalt_getX (q : RegId) : (s.requestHalt).getX q = s.getX q := rfl
@[simp] theorem requestHalt_getC0 (q : RegId) : (s.requestHalt).getC0 q = s.getC0 q := rfl

/-! ## `changeByte` -/

@[simp] theorem changeByte_x (a : Word) (v : Byte) : (s.changeByte a v).x = s.x := rfl
@[simp] theorem changeByte_c0 (a : Word) (v : Byte) : (s.changeByte a v).c0 = s.c0 := rfl
@[simp] theorem changeByte_hi (a : Word) (v : Byte) : (s.changeByte a v).hi = s.hi := rfl
@[simp] theorem changeByte_lo (a : Word) (v : Byte) : (s.changeByte a v).lo = s.lo := rfl
@[simp] theorem changeByte_pc (a : Word) (v : Byte) : (s.changeByte a v).pc = s.pc := rfl
@[simp] theorem changeByte_delayPC (a : Word) (v : Byte) : (s.changeByte a v).delayPC = s.delayPC := rfl
@[simp] theorem changeByte_halt (a : Word) (v : Byte) : (s.changeByte a v).halt = s.halt := rfl
@[simp] theorem changeByte_opsExecuted (a : Word) (v : Byte) : (s.changeByte a v).opsExecuted = s.opsExecuted := rfl
@[simp] theorem changeByte_mem (a : Word) (v : Byte) : (s.changeByte a v).mem = s.mem.write a.toNat v := rfl
@[simp] theorem changeByte_answers (a : Word) (v : Byte) : (s.changeByte a v).answers = s.answers := rfl
@[simp] theorem changeByte_settled (a : Word) (v : Byte) : (s.changeByte a v).settled = s.settled.filter fun b => decide (a ≠ b) := rfl
@[simp] theorem changeByte_params (a : Word) (v : Byte) : (s.changeByte a v).params = s.params := rfl
@[simp] theorem changeByte_out (a : Word) (v : Byte) : (s.changeByte a v).out = s.out := rfl
@[simp] theorem changeByte_getX (a : Word) (v : Byte) (q : RegId) : (s.changeByte a v).getX q = s.getX q := rfl
@[simp] theorem changeByte_getC0 (a : Word) (v : Byte) (q : RegId) : (s.changeByte a v).getC0 q = s.getC0 q := rfl

/-! ## `pulseRefresh` -/

@[simp] theorem pulseRefresh_x : (s.pulseRefresh).x = s.x := rfl
@[simp] theorem pulseRefresh_c0 : (s.pulseRefresh).c0 = s.c0 := rfl
@[simp] theorem pulseRefresh_hi : (s.pulseRefresh).hi = s.hi := rfl
@[simp] theorem pulseRefresh_lo : (s.pulseRefresh).lo = s.lo := rfl
@[simp] theorem pulseRefresh_pc : (s.pulseRefresh).pc = s.pc := rfl
@[simp] theorem pulseRefresh_delayPC : (s.pulseRefresh).delayPC = s.delayPC := rfl
@[simp] theorem pulseRefresh_halt : (s.pulseRefresh).halt = s.halt := rfl
@[simp] theorem pulseRefresh_opsExecuted : (s.pulseRefresh).opsExecuted = s.opsExecuted := rfl
@[simp] theorem pulseRefresh_mem : (s.pulseRefresh).mem = s.mem := rfl
@[simp] theorem pulseRefresh_answers : (s.pulseRefresh).answers = s.answers := rfl
@[simp] theorem pulseRefresh_settled : (s.pulseRefresh).settled = s.settled := rfl
@[simp] theorem pulseRefresh_params : (s.pulseRefresh).params = s.params := rfl
@[simp] theorem pulseRefresh_out : (s.pulseRefresh).out = { s.out with refreshPulses := s.out.refreshPulses + 1 } := rfl
@[simp] theorem pulseRefresh_getX (q : RegId) : (s.pulseRefresh).getX q = s.getX q := rfl
@[simp] theorem pulseRefresh_getC0 (q : RegId) : (s.pulseRefresh).getC0 q = s.getC0 q := rfl

/-! ## `reset` and `hostReset` -/

@[simp] theorem reset_getX (q : RegId) : State.reset.getX q = 0 := by simp [State.getX, State.reset]
@[simp] theorem reset_getC0 (q : RegId) : State.reset.getC0 q = 0 := by simp [State.getC0, State.reset]
@[simp] theorem hostReset_getX (q : RegId) : (hostReset s).getX q = 0 := by simp [State.getX, hostReset]
@[simp] theorem hostReset_getC0 (q : RegId) : (hostReset s).getC0 q = 0 := by simp [State.getC0, hostReset]
@[simp] theorem hostReset_hi : (hostReset s).hi = 0 := rfl
@[simp] theorem hostReset_lo : (hostReset s).lo = 0 := rfl
@[simp] theorem hostReset_pc : (hostReset s).pc = 0 := rfl
@[simp] theorem hostReset_delayPC : (hostReset s).delayPC = 0 := rfl
@[simp] theorem hostReset_halt : (hostReset s).halt = s.halt := rfl
@[simp] theorem hostReset_opsExecuted : (hostReset s).opsExecuted = 0 := rfl
@[simp] theorem hostReset_mem : (hostReset s).mem = s.mem := rfl
@[simp] theorem hostReset_answers : (hostReset s).answers = s.answers := rfl
@[simp] theorem hostReset_settled : (hostReset s).settled = s.settled := rfl
@[simp] theorem hostReset_params : (hostReset s).params = s.params := rfl
@[simp] theorem hostReset_out : (hostReset s).out = s.out := rfl

/-! ## What `FlatMem` answers -/

theorem faults_of_flat {s : State} (h : s.answers = []) (c : PortCall) : s.faults c = Params.flatFaults s.params c := by
  cases c <;> simp [State.faults, State.binds, Params.flatFaults, h]

theorem answeredByte_of_flat {s : State} (h : s.answers = []) (a : Word) : s.answeredByte a = s.mem.read a.toNat := by
  simp only [State.answeredByte, h, ite_self]

theorem answeredWord_of_flat {s : State} (h : s.answers = []) (a : Word) : s.answeredWord a = s.mem.readWord a := by
  simp only [State.answeredWord, h]

/-! ## What R56 binds (20_memory.md R56) -/

@[simp] theorem binds_readByte (a : Word) : s.binds (.readByte a) = decide (a ∈ s.settled) := rfl
@[simp] theorem binds_readWord (a : Word) : s.binds (.readWord a) = false := rfl
@[simp] theorem binds_writeByte (a : Word) (v : Byte) : s.binds (.writeByte a v) = false := rfl
@[simp] theorem binds_writeWord (a v : Word) : s.binds (.writeWord a v) = false := rfl

theorem faults_of_settled {s : State} {a : Word} (h : a ∈ s.settled) : s.faults (.readByte a) = false := by
  simp [State.faults, h]

theorem answeredByte_of_settled {s : State} {a : Word} (h : a ∈ s.settled) : s.answeredByte a = s.mem.read a.toNat := by
  simp [State.answeredByte, h]

/-- The bytes bound after a call: one that was bound and that the call does not write, or the byte of an accepted `writeByte`. -/
theorem mem_settledAfter {s : State} {c : PortCall} {a : Word} :
    a ∈ s.settledAfter c ↔ (a ∈ s.settled ∧ c.writes a = false) ∨ (∃ v, c = .writeByte a v ∧ s.faults c = false) := by
  have hk : a ∈ s.settled.filter (fun a => !c.writes a) ↔ a ∈ s.settled ∧ c.writes a = false := by simp
  cases c with
  | writeByte b v =>
    unfold State.settledAfter
    simp only
    split
    · next hf =>
      rw [hk]
      refine ⟨.inl, fun h => h.resolve_right ?_⟩
      rintro ⟨_, e, hn⟩
      cases e
      simp [hf] at hn
    · next hf =>
      rw [List.mem_cons, hk]
      constructor
      · rintro (rfl | h)
        · exact .inr ⟨v, rfl, by simpa using hf⟩
        · exact .inl h
      · rintro (h | ⟨_, e, -⟩)
        · exact .inr h
        · cases e; exact .inl rfl
  | readByte b => exact hk.trans (by simp)
  | readWord b => exact hk.trans (by simp)
  | writeWord b v => exact hk.trans (by simp)

/-- The bound addresses stay without repeats. -/
theorem called_settled_nodup {s : State} (c : PortCall) (h : s.settled.Nodup) : (s.called c).settled.Nodup := by
  have hk := h.filter fun a => !c.writes a
  cases c with
  | writeByte a v =>
    rw [called_settled, State.settledAfter]
    split
    · exact hk
    · exact List.nodup_cons.2 ⟨by simp [PortCall.writes], hk⟩
  | readByte a => exact hk
  | readWord a => exact hk
  | writeWord a v => exact hk

/-! ## Two states with the same fields are the same -/

/-- States whose registers read alike, and whose other fields agree, are equal. -/
theorem State.ext_reads {s t : State} (hx : ∀ r, s.getX r = t.getX r) (hc : ∀ r, s.getC0 r = t.getC0 r) (hhi : s.hi = t.hi)
    (hlo : s.lo = t.lo) (hpc : s.pc = t.pc) (hd : s.delayPC = t.delayPC) (hh : s.halt = t.halt)
    (ho : s.opsExecuted = t.opsExecuted) (hm : s.mem = t.mem) (ha : s.answers = t.answers) (hs : s.settled = t.settled)
    (hp : s.params = t.params) (hout : s.out = t.out) : s = t := by
  have ex : s.x = t.x := by
    apply Vector.ext; intro k hk
    have := hx (BitVec.ofNat 5 k)
    simpa [State.getX, Nat.mod_eq_of_lt hk] using this
  have ec : s.c0 = t.c0 := by
    apply Vector.ext; intro k hk
    have := hc (BitVec.ofNat 5 k)
    simpa [State.getC0, Nat.mod_eq_of_lt hk] using this
  cases s; cases t; simp_all

end Sys2Proof.Machine
end

