-- ==== Sys2Proof/Laws/Memory.lean ====
section
/-! SUPPORT. Laws of memory: a read after a write, the canonical form, and the byte and word views (20_memory.md R42, R46). -/

namespace Sys2Proof.Machine

namespace Memory

@[simp] theorem read_nil (k : Nat) : Memory.read [] k = unlistedByte := rfl
@[simp] theorem read_cons (a : Nat) (b : Byte) (m : Memory) (k : Nat) :
    Memory.read ((a, b) :: m) k = if a = k then b else Memory.read m k := rfl

theorem wfFrom_cons (low a : Nat) (b : Byte) (m : Memory) :
    Memory.wfFrom low ((a, b) :: m) = true ↔
      low ≤ a ∧ a < 2 ^ 32 ∧ b ≠ unlistedByte ∧ Memory.wfFrom (a + 1) m = true := by
  simp [Memory.wfFrom, and_assoc]

theorem wfFrom_mono {low low' : Nat} (h : low' ≤ low) : ∀ {m : Memory}, Memory.wfFrom low m = true → Memory.wfFrom low' m = true
  | [], _ => rfl
  | (a, b) :: m, hm => by
    rw [wfFrom_cons] at hm ⊢
    exact ⟨by omega, hm.2⟩

/-- Below its lowest listed address a memory reads as unlisted. -/
theorem read_below : ∀ {m : Memory} {low k : Nat}, Memory.wfFrom low m = true → k < low → m.read k = unlistedByte
  | [], _, _, _, _ => rfl
  | (a, b) :: m, low, k, hm, hk => by
    rw [wfFrom_cons] at hm
    rw [read_cons, if_neg (by omega)]
    exact read_below hm.2.2.2 (by omega)

/-- A write leaves every other byte alone. -/
theorem read_write_ne : ∀ (m : Memory) {k j : Nat} (v : Byte), j ≠ k → (m.write k v).read j = m.read j
  | [], k, j, v, h => by
    unfold Memory.write; split <;> simp [Ne.symm h]
  | (a, b) :: m, k, j, v, h => by
    unfold Memory.write
    split
    · split <;> simp [Ne.symm h]
    · split
      · next e => subst e; split <;> simp [Ne.symm h]
      · simp [read_write_ne m v h]

/-- A byte just written reads as what was written. -/
theorem read_write_same : ∀ {m : Memory} {low : Nat} (k : Nat) (v : Byte), Memory.wfFrom low m = true →
    (m.write k v).read k = v
  | [], _, k, v, _ => by unfold Memory.write; split <;> simp_all
  | (a, b) :: m, low, k, v, hm => by
    have hm' := (wfFrom_cons ..).1 hm
    unfold Memory.write
    split
    · split
      · next hlt hv => rw [read_cons, if_neg (by omega), hv]; exact read_below hm'.2.2.2 (by omega)
      · simp
    · split
      · next e =>
        subst e
        split
        · next hv => rw [hv]; exact read_below hm'.2.2.2 (by omega)
        · simp
      · next hne => rw [read_cons, if_neg (fun e => hne e.symm)]; exact read_write_same k v hm'.2.2.2

/-- A write keeps the canonical form. -/
theorem write_wfFrom : ∀ {m : Memory} {low k : Nat} (v : Byte), Memory.wfFrom low m = true → low ≤ k → k < 2 ^ 32 →
    Memory.wfFrom low (m.write k v) = true
  | [], low, k, v, _, hl, hk => by
    unfold Memory.write
    split
    · rfl
    · next hv => rw [wfFrom_cons]; exact ⟨hl, hk, hv, rfl⟩
  | (a, b) :: m, low, k, v, hm, hl, hk => by
    have hm' := (wfFrom_cons ..).1 hm
    unfold Memory.write
    split
    · split
      · exact hm
      · next hlt hv => rw [wfFrom_cons]; exact ⟨hl, hk, hv, (wfFrom_cons ..).2 ⟨by omega, hm'.2⟩⟩
    · split
      · next e =>
        split
        · exact wfFrom_mono (by omega) hm'.2.2.2
        · next hv => rw [wfFrom_cons]; exact ⟨hl, hk, hv, wfFrom_mono (by omega) hm'.2.2.2⟩
      · rw [wfFrom_cons]; exact ⟨hm'.1, hm'.2.1, hm'.2.2.1, write_wfFrom v hm'.2.2.2 (by omega) hk⟩

theorem write_wf {m : Memory} {k : Nat} (v : Byte) (hm : m.wf = true) (hk : k < 2 ^ 32) : (m.write k v).wf = true :=
  write_wfFrom v hm (Nat.zero_le _) hk

theorem read_write {m : Memory} (k j : Nat) (v : Byte) (hm : m.wf = true) :
    (m.write k v).read j = if j = k then v else m.read j := by
  split
  · next h => rw [h]; exact read_write_same k v hm
  · next h => exact read_write_ne m v h

/-- Canonical memories that read alike are the same data. -/
theorem ext_wfFrom : ∀ {m n : Memory} {low : Nat}, Memory.wfFrom low m = true → Memory.wfFrom low n = true →
    (∀ k, m.read k = n.read k) → m = n
  | [], [], _, _, _, _ => rfl
  | [], (a, b) :: n, _, _, hn, h => by
    have := h a
    simp only [read_nil, read_cons, if_pos] at this
    exact absurd this.symm ((wfFrom_cons ..).1 hn).2.2.1
  | (a, b) :: m, [], _, hm, _, h => by
    have := h a
    simp only [read_nil, read_cons, if_pos] at this
    exact absurd this ((wfFrom_cons ..).1 hm).2.2.1
  | (a, b) :: m, (c, d) :: n, low, hm, hn, h => by
    have hm' := (wfFrom_cons ..).1 hm
    have hn' := (wfFrom_cons ..).1 hn
    have hac : a = c := by
      rcases Nat.lt_trichotomy a c with hlt | heq | hgt
      · have := h a
        rw [read_cons, if_pos rfl, read_below (low := c) ((wfFrom_cons ..).2 ⟨le_rfl, hn'.2⟩) hlt] at this
        exact absurd this hm'.2.2.1
      · exact heq
      · have := h c
        rw [read_cons (a := c), if_pos rfl, read_below (low := a) ((wfFrom_cons ..).2 ⟨le_rfl, hm'.2⟩) hgt] at this
        exact absurd this.symm hn'.2.2.1
    subst hac
    have hbd : b = d := by simpa using h a
    subst hbd
    rw [ext_wfFrom hm'.2.2.2 hn'.2.2.2 fun k => by
      by_cases hk : a = k
      · subst hk
        rw [read_below hm'.2.2.2 (Nat.lt_succ_self _), read_below hn'.2.2.2 (Nat.lt_succ_self _)]
      · simpa [hk] using h k]

theorem ext_wf {m n : Memory} (hm : m.wf = true) (hn : n.wf = true) (h : ∀ k, m.read k = n.read k) : m = n :=
  ext_wfFrom hm hn h

end Memory

/-! ## Words -/

theorem byteKey_lt (a : Word) (k : Nat) : byteKey a k < 2 ^ 32 := (a + BitVec.ofNat 32 k).isLt

theorem byteKey_zero (a : Word) : byteKey a 0 = a.toNat := by simp [byteKey]

theorem byteKey_eq (a : Word) (k : Nat) : byteKey a k = (a.toNat + k) % 2 ^ 32 := by
  simp [byteKey, BitVec.toNat_add]

/-- The four bytes of a word lie at four different addresses, also where the address wraps. -/
theorem byteKey_inj (a : Word) {j k : Nat} (hj : j < 4) (hk : k < 4) : byteKey a j = byteKey a k ↔ j = k := by
  rw [byteKey_eq, byteKey_eq]
  have := a.isLt
  omega

theorem Memory.writeWord_wf {m : Memory} (a v : Word) (hm : m.wf = true) : (m.writeWord a v).wf = true :=
  Memory.write_wf _ (Memory.write_wf _ (Memory.write_wf _ (Memory.write_wf _ hm (byteKey_lt ..)) (byteKey_lt ..))
    (byteKey_lt ..)) (byteKey_lt ..)

/-- A word write leaves every byte but its four alone. -/
theorem Memory.read_writeWord_ne (m : Memory) (a v : Word) {j : Nat} (h : ∀ k < 4, j ≠ byteKey a k) :
    (m.writeWord a v).read j = m.read j := by
  unfold Memory.writeWord
  rw [Memory.read_write_ne _ _ (h 3 (by omega)), Memory.read_write_ne _ _ (h 2 (by omega)),
    Memory.read_write_ne _ _ (h 1 (by omega)), Memory.read_write_ne _ _ (h 0 (by omega))]

/-- A byte that `writeByte` does not write keeps its value. -/
theorem Memory.read_write_of_writes (m : Memory) {a b : Word} (v : Byte) (h : (PortCall.writeByte a v).writes b = false) :
    (m.write a.toNat v).read b.toNat = m.read b.toNat :=
  Memory.read_write_ne m v fun e => by simp [PortCall.writes, BitVec.eq_of_toNat_eq e] at h

/-- A byte that `writeWord` does not write keeps its value. -/
theorem Memory.read_writeWord_of_writes (m : Memory) {a b : Word} (v : Word) (h : (PortCall.writeWord a v).writes b = false) :
    (m.writeWord a v).read b.toNat = m.read b.toNat := by
  refine Memory.read_writeWord_ne m a v fun k hk e => ?_
  simp only [PortCall.writes, decide_eq_false_iff_not, BitVec.toNat_sub] at h
  rw [byteKey_eq] at e
  have := a.isLt
  omega

/-- The byte at offset `k` of a word just written. -/
theorem Memory.read_writeWord {m : Memory} (a v : Word) (hm : m.wf = true) {k : Nat} (hk : k < 4) :
    (m.writeWord a v).read (byteKey a k) = byteOfWord v k := by
  have w0 := Memory.write_wf (byteOfWord v 0) hm (byteKey_lt a 0)
  have w1 := Memory.write_wf (byteOfWord v 1) w0 (byteKey_lt a 1)
  have w2 := Memory.write_wf (byteOfWord v 2) w1 (byteKey_lt a 2)
  unfold Memory.writeWord
  rw [Memory.read_write _ _ _ w2, Memory.read_write _ _ _ w1, Memory.read_write _ _ _ w0, Memory.read_write _ _ _ hm]
  simp only [byteKey_inj a hk (show 3 < 4 by omega), byteKey_inj a hk (show 2 < 4 by omega),
    byteKey_inj a hk (show 1 < 4 by omega), byteKey_inj a hk (show 0 < 4 by omega)]
  split
  · next h => rw [h]
  · split
    · next h => rw [h]
    · split
      · next h => rw [h]
      · split
        · next h => rw [h]
        · omega

/-- A word is its four bytes, the most significant first (20_memory.md R42). -/
theorem wordOfBytes_byteOfWord (w : Word) :
    wordOfBytes (byteOfWord w 0) (byteOfWord w 1) (byteOfWord w 2) (byteOfWord w 3) = w := by
  apply BitVec.eq_of_getLsbD_eq
  intro i hi
  simp only [wordOfBytes, byteOfWord, BitVec.getLsbD_append, BitVec.getLsbD_extractLsb']
  rcases Nat.lt_or_ge i 8 with h | h
  · simp [h]
  · rcases Nat.lt_or_ge i 16 with h' | h'
    · simp [show ¬ i < 8 by omega, show i - 8 < 8 by omega, show 8 + (i - 8) = i by omega]
    · rcases Nat.lt_or_ge i 24 with h'' | h''
      · simp [show ¬ i < 8 by omega, show ¬ i - 8 < 8 by omega, show i - 8 - 8 < 8 by omega,
          show 16 + (i - 8 - 8) = i by omega]
      · simp [show ¬ i < 8 by omega, show ¬ i - 8 < 8 by omega, show ¬ i - 8 - 8 < 8 by omega,
          show i - 8 - 8 - 8 < 8 by omega, show 24 + (i - 8 - 8 - 8) = i by omega]

theorem byteOfWord_wordOfBytes (b0 b1 b2 b3 : Byte) :
    byteOfWord (wordOfBytes b0 b1 b2 b3) 0 = b0 ∧ byteOfWord (wordOfBytes b0 b1 b2 b3) 1 = b1 ∧
      byteOfWord (wordOfBytes b0 b1 b2 b3) 2 = b2 ∧ byteOfWord (wordOfBytes b0 b1 b2 b3) 3 = b3 := by
  refine ⟨?_, ?_, ?_, ?_⟩ <;> apply BitVec.eq_of_getLsbD_eq <;> intro i hi <;>
    simp only [wordOfBytes, byteOfWord, BitVec.getLsbD_append, BitVec.getLsbD_extractLsb'] <;>
    simp [hi, Nat.sub_sub, show ¬ 8 + i < 8 by omega, show ¬ 16 + i < 8 by omega, show ¬ 24 + i < 8 by omega,
      show ¬ 16 + i - 8 < 8 by omega, show ¬ 24 + i - 8 < 8 by omega, show ¬ 24 + i - 16 < 8 by omega,
      show 8 + i - 8 = i by omega, show 24 + i - 24 = i by omega,
      show 16 + i - 8 - 8 = i by omega]

/-- A word just written reads as what was written. -/
theorem Memory.readWord_writeWord {m : Memory} (a v : Word) (hm : m.wf = true) : (m.writeWord a v).readWord a = v := by
  rw [Memory.readWord, Memory.read_writeWord a v hm (by omega), Memory.read_writeWord a v hm (by omega),
    Memory.read_writeWord a v hm (by omega), Memory.read_writeWord a v hm (by omega), wordOfBytes_byteOfWord]

/-- Memories that read alike read alike by words. -/
theorem Memory.readWord_congr {m n : Memory} (h : ∀ k, m.read k = n.read k) (a : Word) : m.readWord a = n.readWord a := by
  simp only [Memory.readWord, h]

/-! ## The host's change of the memory (60_exceptions.md R289) -/

/-- It changes the bytes and what R56 binds, and nothing else. -/
theorem changeMemory_eq (s : State) : ∀ bytes : List (Word × Byte),
    s.changeMemory bytes = { s with mem := (s.changeMemory bytes).mem, settled := (s.changeMemory bytes).settled }
  | [] => rfl
  | (a, v) :: bytes => changeMemory_eq (s.changeByte a v) bytes

/-- A byte that is not listed reads as before. -/
theorem changeMemory_read_ne {k : Nat} : ∀ {bytes : List (Word × Byte)} (s : State), (∀ p ∈ bytes, p.1.toNat ≠ k) →
    (s.changeMemory bytes).mem.read k = s.mem.read k
  | [], _, _ => rfl
  | (a, v) :: bytes, s, h => by
    rw [State.changeMemory, changeMemory_read_ne _ fun p hp => h p (List.mem_cons_of_mem _ hp), changeByte_mem,
      Memory.read_write_ne _ _ (h (a, v) (List.mem_cons_self ..)).symm]

/-- It keeps the canonical form. -/
theorem changeMemory_memoryCanonical : ∀ (bytes : List (Word × Byte)) {s : State}, s.memoryCanonical →
    (s.changeMemory bytes).memoryCanonical
  | [], _, h => h
  | (a, v) :: bytes, s, h => changeMemory_memoryCanonical bytes (s := s.changeByte a v) (Memory.write_wf v h a.isLt)

/-- A byte reads as the last entry listed for it says. -/
theorem changeMemory_read {a : Word} {v : Byte} {after : List (Word × Byte)} (hn : ∀ p ∈ after, p.1 ≠ a) :
    ∀ (before : List (Word × Byte)) {s : State}, s.memoryCanonical →
      (s.changeMemory (before ++ (a, v) :: after)).mem.read a.toNat = v
  | [], s, h => by
    rw [List.nil_append, State.changeMemory, changeMemory_read_ne _ fun p hp e => hn p hp (BitVec.eq_of_toNat_eq e)]
    exact Memory.read_write_same _ _ h
  | (b, w) :: before, s, h => changeMemory_read hn before (s := s.changeByte b w) (Memory.write_wf w h b.isLt)

/-- R56 binds the bytes it bound that are not listed. -/
theorem mem_changeMemory_settled {b : Word} : ∀ {bytes : List (Word × Byte)} (s : State),
    b ∈ (s.changeMemory bytes).settled ↔ b ∈ s.settled ∧ ∀ p ∈ bytes, p.1 ≠ b
  | [], s => by simp [State.changeMemory]
  | (a, v) :: bytes, s => by
    rw [State.changeMemory, mem_changeMemory_settled]
    simp [and_assoc]

theorem reset_mem_wf : State.reset.mem.wf = true := rfl

/-- Placing an instruction keeps the canonical form. -/
theorem placeFetchWord_memoryCanonical {s : State} (w : Word) (h : s.memoryCanonical) : (placeFetchWord s w).memoryCanonical :=
  Memory.writeWord_wf _ _ h

end Sys2Proof.Machine
end

