-- ==== Sys2Proof/Laws/Ops.lean ====
section
/-! SUPPORT. Laws of the shared operations: what each answers, said once (40_step_and_dispatch.md R93 to R96, R98). -/

namespace Sys2Proof.Machine

/-! ## Equality of states -/

/-- Two states with the same fields are equal; a `rfl` or `simp` goal for each. -/
theorem State.eq_of_fields {s t : State} (hx : s.x = t.x) (hc : s.c0 = t.c0) (hhi : s.hi = t.hi) (hlo : s.lo = t.lo)
    (hpc : s.pc = t.pc) (hd : s.delayPC = t.delayPC) (hh : s.halt = t.halt) (ho : s.opsExecuted = t.opsExecuted)
    (hm : s.mem = t.mem) (ha : s.answers = t.answers) (hs : s.settled = t.settled) (hp : s.params = t.params)
    (hout : s.out = t.out) : s = t := by
  cases s; cases t; simp_all

/-! ## Retiring -/

/-- An instruction that neither schedules nor annuls ends in its state advanced. -/
theorem finish_eq {s0 s : State} (hp : s.pc = s0.pc) (hd : s.delayPC = s0.delayPC) : finish s0 s = .next s.advanced := by
  have h : (s.updatePC s0.pc s0.delayPC false).countOp = s.advanced := by
    by_cases hz : s0.delayPC = 0 <;> apply State.eq_of_fields <;> simp [updatePC_pc, updatePC_delayPC, hp, hd, hz]
  simp [finish, retire, h]

/-- `finish` of a state that still has the pc and the pending target of the step. -/
theorem finish_self (s : State) : finish s s = .next s.advanced := finish_eq rfl rfl
@[simp] theorem finish_setX (s : State) (r : RegId) (v : DWord) : finish s (s.setX r v) = .next (s.setX r v).advanced :=
  finish_eq rfl rfl
@[simp] theorem finish_setC0 (s : State) (r : RegId) (v : Word) : finish s (s.setC0 r v) = .next (s.setC0 r v).advanced :=
  finish_eq rfl rfl
@[simp] theorem finish_setProduct (s : State) (v : DWord) : finish s (s.setProduct v) = .next (s.setProduct v).advanced :=
  finish_eq rfl rfl

/-! ## Control transfers -/

/-- All that `ScheduleBranch` can do: refuse in a delay slot, refuse the target as invalid, or schedule it. -/
theorem scheduleBranch_eq {w t : Word} {s0 s : State} (hp : s.pc = s0.pc) :
    scheduleBranch w t s0 s =
      if s0.delayPC ≠ 0 then .refused .controlTransferInDelaySlot
      else if Params.invalidTarget s.params t then .next (s.capture (.invalidBranchTarget t) (some w))
      else .next (s.scheduled t) := by
  unfold scheduleBranch
  split
  · rfl
  · next hd =>
    split
    · rfl
    · simp at hd
      simp only [finish, retire, Host.Outcome.next.injEq]
      apply State.eq_of_fields <;> simp [updatePC_pc, updatePC_delayPC, hp, hd]

/-- All that `Annul` can do: refuse in a delay slot, or skip the slot. -/
theorem annulSlot_eq (s : State) :
    annulSlot s = if s.delayPC ≠ 0 then .refused .controlTransferInDelaySlot else .next s.annulled := by
  unfold annulSlot
  split
  · rfl
  · next hd =>
    simp at hd
    simp only [retire, Host.Outcome.next.injEq]
    apply State.eq_of_fields <;> simp [updatePC_pc, updatePC_delayPC, hd]

/-- A conditional branch, `s` being the state after the link write if there is one. -/
theorem branchIf_eq {c : Bool} {w t : Word} {s0 s : State} (hp : s.pc = s0.pc) (hd : s.delayPC = s0.delayPC) :
    branchIf c w t s0 s =
      if c = false then .next s.advanced
      else if s0.delayPC ≠ 0 then .refused .controlTransferInDelaySlot
      else if Params.invalidTarget s.params t then .next (s.capture (.invalidBranchTarget t) (some w))
      else .next (s.scheduled t) := by
  cases c <;> simp [branchIf, finish_eq hp hd, scheduleBranch_eq hp]

/-- A likely branch. -/
theorem branchLikely_eq {c : Bool} {w t : Word} {s : State} :
    branchLikely c w t s =
      if s.delayPC ≠ 0 then .refused .controlTransferInDelaySlot
      else if c = false then .next s.annulled
      else if Params.invalidTarget s.params t then .next (s.capture (.invalidBranchTarget t) (some w))
      else .next (s.scheduled t) := by
  cases c <;> simp [branchLikely, annulSlot_eq, scheduleBranch_eq (s := s) rfl]

/-! ## The memory port -/

/-- A byte load: the register is written only where the collaborator answers. -/
theorem finishLoad_byte_eq (s : State) (r : RegId) (f : Byte → DWord) (w : Option Word) (a : Word) :
    finishLoad s r f (s.memReadByte w a) =
      if s.faults (.readByte a) then .next ((s.called (.readByte a)).capture (.memoryFault a) w)
      else .next ((s.called (.readByte a)).setX r (f (s.answeredByte a))).advanced := by
  unfold State.memReadByte
  split
  · rfl
  · exact finish_eq rfl rfl

/-- A word load. -/
theorem finishLoad_word_eq (s : State) (r : RegId) (f : Word → DWord) (w : Option Word) (a : Word) :
    finishLoad s r f (s.memReadWord w a) =
      if s.faults (.readWord a) then .next ((s.called (.readWord a)).capture (.memoryFault a) w)
      else .next ((s.called (.readWord a)).setX r (f (s.answeredWord a))).advanced := by
  unfold State.memReadWord
  split
  · rfl
  · exact finish_eq rfl rfl

/-- A byte store: memory is written only where the collaborator answers. -/
theorem finishStore_byte_eq (s : State) (w : Option Word) (a : Word) (v : Byte) :
    finishStore s (s.memWriteByte w a v) =
      if s.faults (.writeByte a v) then .next ((s.called (.writeByte a v)).capture (.memoryFault a) w)
      else .next ((s.called (.writeByte a v)).setMem (s.mem.write a.toNat v)).advanced := by
  unfold State.memWriteByte
  split
  · rfl
  · exact finish_eq rfl rfl

/-- A word store. -/
theorem finishStore_word_eq (s : State) (w : Option Word) (a v : Word) :
    finishStore s (s.memWriteWord w a v) =
      if s.faults (.writeWord a v) then .next ((s.called (.writeWord a v)).capture (.memoryFault a) w)
      else .next ((s.called (.writeWord a v)).setMem (s.mem.writeWord a v)).advanced := by
  unfold State.memWriteWord
  split
  · rfl
  · exact finish_eq rfl rfl

theorem finishLoad_byte_done (s : State) (r : RegId) (f : Byte → DWord) (w : Option Word) {a : Word}
    (h : s.faults (.readByte a) = false) :
    finishLoad s r f (s.memReadByte w a) = .next ((s.called (.readByte a)).setX r (f (s.answeredByte a))).advanced := by
  rw [finishLoad_byte_eq, if_neg (by simp [h])]

theorem finishLoad_word_done (s : State) (r : RegId) (f : Word → DWord) (w : Option Word) {a : Word}
    (h : s.faults (.readWord a) = false) :
    finishLoad s r f (s.memReadWord w a) = .next ((s.called (.readWord a)).setX r (f (s.answeredWord a))).advanced := by
  rw [finishLoad_word_eq, if_neg (by simp [h])]

theorem finishStore_byte_done (s : State) (w : Option Word) {a : Word} (v : Byte)
    (h : s.faults (.writeByte a v) = false) :
    finishStore s (s.memWriteByte w a v) = .next ((s.called (.writeByte a v)).setMem (s.mem.write a.toNat v)).advanced := by
  rw [finishStore_byte_eq, if_neg (by simp [h])]

theorem finishStore_word_done (s : State) (w : Option Word) {a : Word} (v : Word)
    (h : s.faults (.writeWord a v) = false) :
    finishStore s (s.memWriteWord w a v) = .next ((s.called (.writeWord a v)).setMem (s.mem.writeWord a v)).advanced := by
  rw [finishStore_word_eq, if_neg (by simp [h])]

/-! ## Derived addresses and values -/

theorem sext64_canonical (v : Word) : canonicalValue (sext64 v) := by
  unfold canonicalValue sext64
  apply BitVec.eq_of_getLsbD_eq
  intro i hi
  simp only [BitVec.getLsbD_signExtend, BitVec.getLsbD_extractLsb', BitVec.msb_eq_getLsbD_last]
  by_cases h : i < 32
  · simp [h, show i < 64 by omega]
  · simp [h]

theorem canonical_iff (v : DWord) : canonicalValue v ↔ v = sext64 (lo32 v) := Iff.rfl

end Sys2Proof.Machine
end

