-- ==== Sys2Proof/Laws/Exec.lean ====
section
/-! SUPPORT. Laws of exec and step: all that an instruction can do, said once, and all that a step can do. Invariants and frames
are case analyses of `exec_ran` and `step_stepped`. -/

namespace Sys2Proof.Machine

/-! ## Canonical values (10_state.md R14) -/

theorem canonicalValue_iff_bits (v : DWord) : canonicalValue v ↔ ∀ k, 32 ≤ k → k < 64 → v.getLsbD k = v.getLsbD 31 := by
  unfold canonicalValue
  constructor
  · intro h k hk hk'
    rw [h]
    simp only [BitVec.getLsbD_signExtend, BitVec.getLsbD_extractLsb', BitVec.msb_eq_getLsbD_last]
    simp [hk', show ¬ k < 32 by omega]
  · intro h
    apply BitVec.eq_of_getLsbD_eq
    intro k hk
    simp only [BitVec.getLsbD_signExtend, BitVec.getLsbD_extractLsb', BitVec.msb_eq_getLsbD_last]
    by_cases h32 : k < 32
    · simp [h32, hk]
    · simpa [h32, hk] using h k (by omega) hk

theorem canonicalValue_and {a b : DWord} (ha : canonicalValue a) (hb : canonicalValue b) : canonicalValue (a &&& b) := by
  rw [canonicalValue_iff_bits] at *
  intro k hk hk'
  simp only [BitVec.getLsbD_and, ha k hk hk', hb k hk hk']

theorem canonicalValue_or {a b : DWord} (ha : canonicalValue a) (hb : canonicalValue b) : canonicalValue (a ||| b) := by
  rw [canonicalValue_iff_bits] at *
  intro k hk hk'
  simp only [BitVec.getLsbD_or, ha k hk hk', hb k hk hk']

theorem canonicalValue_xor {a b : DWord} (ha : canonicalValue a) (hb : canonicalValue b) : canonicalValue (a ^^^ b) := by
  rw [canonicalValue_iff_bits] at *
  intro k hk hk'
  simp only [BitVec.getLsbD_xor, ha k hk hk', hb k hk hk']

/-- A value below 2^31 is canonical. -/
theorem canonicalValue_of_small {v : DWord} (h : ∀ k, 31 ≤ k → v.getLsbD k = false) : canonicalValue v := by
  rw [canonicalValue_iff_bits]
  intro k hk _
  rw [h k (by omega), h 31 le_rfl]

theorem canonicalValue_immZext64 (imm16 : BitVec 16) : canonicalValue (immZext64 imm16) :=
  canonicalValue_of_small fun k hk => by simp [immZext64, show 16 ≤ k by omega]

theorem canonicalValue_zext64OfByte (b : Byte) : canonicalValue (zext64OfByte b) :=
  canonicalValue_of_small fun k hk => by simp [zext64OfByte, show 8 ≤ k by omega]

theorem canonicalValue_compareResult (c : Bool) : canonicalValue (compareResult c) := by
  unfold canonicalValue; cases c <;> decide

/-! ## What an instruction can do -/

/-- The call reads memory. -/
def PortCall.isRead : PortCall → Bool
  | .readByte _ | .readWord _ => true
  | _ => false

/-- The instruction may schedule a target or annul a slot. -/
def Shape.isTransfer : Shape → Bool
  | .transfer | .likelyTransfer | .linkTransfer => true
  | _ => false

/-- All that `i` can do in `s`, by its shape. -/
inductive Ran (i : Instr) (s : State) : Outcome → Prop where
  | register (r : RegId) (v : DWord) : shapeOf i = .register r → (s.canonical → canonicalValue v) →
      Ran i s (.next (s.setX r v).advanced)
  | accumulators (h l : DWord) : shapeOf i = .accumulators → canonicalValue h → canonicalValue l →
      Ran i s (.next (s.setHiLo h l).advanced)
  | control (r : RegId) (v : Word) : shapeOf i = .control r → Params.writable s.params r = true →
      Ran i s (.next (s.setC0 r v).advanced)
  | loaded (c : PortCall) (r : RegId) (v : DWord) : shapeOf i = .load r → c.isRead = true → canonicalValue v →
      Ran i s (.next ((s.called c).setX r v).advanced)
  | stored (c : PortCall) (m : Memory) : shapeOf i = .store → c.isRead = false →
      (∀ k, k ∉ storedKeys i s → m.read k = s.mem.read k) →
      (∀ a : Word, c.writes a = false → m.read a.toNat = s.mem.read a.toNat) → (s.mem.wf = true → m.wf = true) →
      Ran i s (.next ((s.called c).setMem m).advanced)
  | nothing : shapeOf i = .nothing ∨ shapeOf i = .transfer → Ran i s (.next s.advanced)
  | linkedOnly : shapeOf i = .linkTransfer → Ran i s (.next s.link.advanced)
  | scheduled (t : Word) : shapeOf i = .transfer ∨ shapeOf i = .likelyTransfer → s.delayPC = 0 →
      Params.invalidTarget s.params t = false → Ran i s (.next (s.scheduled t))
  | linkScheduled (t : Word) : shapeOf i = .linkTransfer → s.delayPC = 0 → Params.invalidTarget s.params t = false →
      Ran i s (.next (s.link.scheduled t))
  | annulled : shapeOf i = .likelyTransfer → s.delayPC = 0 → Ran i s (.next s.annulled)
  | unimplemented : (shapeOf i = .faults ∨ ∃ r, shapeOf i = .control r ∧ Params.writable s.params r = false) →
      Ran i s (.next (s.capture .unimplementedOperation (some (encode i))))
  | invalidTarget (t : Word) : shapeOf i = .transfer ∨ shapeOf i = .likelyTransfer → s.delayPC = 0 →
      Params.invalidTarget s.params t = true → Ran i s (.next (s.capture (.invalidBranchTarget t) (some (encode i))))
  | linkInvalidTarget (t : Word) : shapeOf i = .linkTransfer → s.delayPC = 0 → Params.invalidTarget s.params t = true →
      Ran i s (.next (s.link.capture (.invalidBranchTarget t) (some (encode i))))
  | portFault (c : PortCall) (a : Word) : ((∃ r, shapeOf i = .load r) ∧ c.isRead = true ∨ shapeOf i = .store ∧ c.isRead = false) →
      Ran i s (.next ((s.called c).capture (.memoryFault a) (some (encode i))))
  | inDelaySlot : (shapeOf i).isTransfer = true → s.delayPC ≠ 0 → Ran i s (.refused .controlTransferInDelaySlot)
  | linkRegisterTested : i.wellFormed = false → Ran i s (.refused .linkRegisterTested)

theorem ran_faults {i : Instr} {s : State} (hs : shapeOf i = .faults) (he : exec i s = raiseUnimplemented (encode i) s) :
    Ran i s (exec i s) := by
  rw [he]; exact .unimplemented (.inl hs)

theorem ran_register {i : Instr} {s : State} {r : RegId} {v : DWord} (hs : shapeOf i = .register r)
    (he : exec i s = finish s (s.setX r v)) (hc : s.canonical → canonicalValue v) : Ran i s (exec i s) := by
  rw [he, finish_setX]; exact .register r v hs hc

theorem ran_transfer {i : Instr} {s : State} {t : Word} (hs : shapeOf i = .transfer)
    (he : exec i s = scheduleBranch (encode i) t s s) : Ran i s (exec i s) := by
  rw [he, scheduleBranch_eq rfl]
  split
  · next hd => exact .inDelaySlot (by rw [hs]; rfl) hd
  · next hd =>
    simp only [ne_eq, not_not] at hd
    split
    · next hi => exact .invalidTarget t (.inl hs) hd hi
    · next hi => exact .scheduled t (.inl hs) hd (by simpa using hi)

theorem ran_branch {i : Instr} {s : State} {t : Word} {c : Bool} (hs : shapeOf i = .transfer)
    (he : exec i s = branchIf c (encode i) t s s) : Ran i s (exec i s) := by
  cases c
  · rw [he, branchIf_eq rfl rfl, if_pos rfl]; exact .nothing (.inr hs)
  · exact ran_transfer hs he

theorem ran_likely {i : Instr} {s : State} {t : Word} {c : Bool} (hs : shapeOf i = .likelyTransfer)
    (he : exec i s = branchLikely c (encode i) t s) : Ran i s (exec i s) := by
  rw [he, branchLikely_eq]
  split
  · next hd => exact .inDelaySlot (by rw [hs]; rfl) hd
  · next hd =>
    simp only [ne_eq, not_not] at hd
    split
    · exact .annulled hs hd
    · split
      · next hi => exact .invalidTarget t (.inr hs) hd hi
      · next hi => exact .scheduled t (.inr hs) hd (by simpa using hi)

theorem ran_link {i : Instr} {s : State} {t : Word} {c : Bool} (hs : shapeOf i = .linkTransfer)
    (he : exec i s = branchIf c (encode i) t s s.link) : Ran i s (exec i s) := by
  rw [he, branchIf_eq (show s.link.pc = s.pc from rfl) (show s.link.delayPC = s.delayPC from rfl)]
  split
  · exact .linkedOnly hs
  · split
    · next hd => exact .inDelaySlot (by rw [hs]; rfl) hd
    · next hd =>
      simp only [ne_eq, not_not] at hd
      split
      · next hi => exact .linkInvalidTarget t hs hd hi
      · next hi => exact .linkScheduled t hs hd (by simpa using hi)

theorem ran_loadByte {i : Instr} {s : State} {r : RegId} {a : Word} (hs : shapeOf i = .load r)
    (he : exec i s = finishLoad s r zext64OfByte (s.memReadByte (some (encode i)) a)) : Ran i s (exec i s) := by
  rw [he, finishLoad_byte_eq]
  split
  · exact .portFault _ _ (.inl ⟨⟨r, hs⟩, rfl⟩)
  · exact .loaded _ r _ hs rfl (canonicalValue_zext64OfByte _)

theorem ran_loadWord {i : Instr} {s : State} {r : RegId} {a : Word} (hs : shapeOf i = .load r)
    (he : exec i s = finishLoad s r sext64 (s.memReadWord (some (encode i)) a)) : Ran i s (exec i s) := by
  rw [he, finishLoad_word_eq]
  split
  · exact .portFault _ _ (.inl ⟨⟨r, hs⟩, rfl⟩)
  · exact .loaded _ r _ hs rfl (sext64_canonical _)

theorem ran_storeByte {i : Instr} {s : State} {a : Word} {v : Byte} (hs : shapeOf i = .store)
    (hk : storedKeys i s = [byteKey a 0]) (he : exec i s = finishStore s (s.memWriteByte (some (encode i)) a v)) :
    Ran i s (exec i s) := by
  rw [he, finishStore_byte_eq]
  split
  · exact .portFault _ _ (.inr ⟨hs, rfl⟩)
  · refine .stored _ _ hs rfl (fun k hn => ?_) (fun b => Memory.read_write_of_writes _ _) fun hw => Memory.write_wf _ hw a.isLt
    rw [hk, byteKey_zero, List.mem_singleton] at hn
    exact Memory.read_write_ne _ _ hn

theorem ran_storeWord {i : Instr} {s : State} {a : Word} {v : Word} (hs : shapeOf i = .store)
    (hk : storedKeys i s = (List.range 4).map (byteKey a))
    (he : exec i s = finishStore s (s.memWriteWord (some (encode i)) a v)) : Ran i s (exec i s) := by
  rw [he, finishStore_word_eq]
  split
  · exact .portFault _ _ (.inr ⟨hs, rfl⟩)
  · refine .stored _ _ hs rfl (fun k hn => ?_) (fun b => Memory.read_writeWord_of_writes _ _) fun hw => Memory.writeWord_wf _ _ hw
    refine Memory.read_writeWord_ne _ _ _ fun j hj e => hn ?_
    rw [hk, e]
    exact List.mem_map_of_mem (List.mem_range.2 hj)

/-- Every instruction, in every state, does one of the things its shape allows. -/
theorem exec_ran (i : Instr) (s : State) : Ran i s (exec i s) := by
  cases i with
  | j => exact ran_transfer rfl rfl
  | jal => exact ran_link (c := true) rfl rfl
  | beq => exact ran_branch rfl rfl
  | bne => exact ran_branch rfl rfl
  | blez => exact ran_branch rfl rfl
  | bgtz => exact ran_branch rfl rfl
  | addi => exact ran_register rfl rfl (fun _ => sext64_canonical _)
  | addiu => exact ran_register rfl rfl (fun _ => sext64_canonical _)
  | slti => exact ran_register rfl rfl (fun _ => canonicalValue_compareResult _)
  | sltiu => exact ran_register rfl rfl (fun _ => canonicalValue_compareResult _)
  | andi => exact ran_register rfl rfl (fun h => canonicalValue_and (h.1 _) (canonicalValue_immZext64 _))
  | ori => exact ran_register rfl rfl (fun h => canonicalValue_or (h.1 _) (canonicalValue_immZext64 _))
  | xori => exact ran_register rfl rfl (fun h => canonicalValue_xor (h.1 _) (canonicalValue_immZext64 _))
  | lui => exact ran_faults rfl rfl
  | cop1 => exact ran_faults rfl rfl
  | cop2 => exact ran_faults rfl rfl
  | beql => exact ran_likely rfl rfl
  | bnel => exact ran_likely rfl rfl
  | blezl => exact ran_likely rfl rfl
  | bgtzl => exact ran_likely rfl rfl
  | daddi => exact ran_faults rfl rfl
  | daddiu => exact ran_faults rfl rfl
  | ldl => exact ran_faults rfl rfl
  | ldr => exact ran_faults rfl rfl
  | lb => exact ran_loadByte rfl rfl
  | lh => exact ran_faults rfl rfl
  | lwl => exact ran_faults rfl rfl
  | lw => exact ran_loadWord rfl rfl
  | lbu => exact ran_loadByte rfl rfl
  | lhu => exact ran_faults rfl rfl
  | lwr => exact ran_faults rfl rfl
  | lwu => exact ran_faults rfl rfl
  | sb => exact ran_storeByte rfl rfl rfl
  | sh => exact ran_faults rfl rfl
  | swl => exact ran_faults rfl rfl
  | sw => exact ran_storeWord rfl rfl rfl
  | sdl => exact ran_faults rfl rfl
  | sdr => exact ran_faults rfl rfl
  | swr => exact ran_faults rfl rfl
  | cache => rw [show exec _ s = finish s s from rfl, finish_self]; exact .nothing (.inl rfl)
  | ll => exact ran_faults rfl rfl
  | lwc1 => exact ran_faults rfl rfl
  | lwc2 => exact ran_faults rfl rfl
  | lld => exact ran_faults rfl rfl
  | ldc1 => exact ran_faults rfl rfl
  | ldc2 => exact ran_faults rfl rfl
  | ld => exact ran_faults rfl rfl
  | sc => exact ran_faults rfl rfl
  | swc1 => exact ran_faults rfl rfl
  | swc2 => exact ran_faults rfl rfl
  | scd => exact ran_faults rfl rfl
  | sdc1 => exact ran_faults rfl rfl
  | sdc2 => exact ran_faults rfl rfl
  | sd => exact ran_faults rfl rfl
  | sll => exact ran_register rfl rfl (fun _ => sext64_canonical _)
  | srl => exact ran_register rfl rfl (fun _ => sext64_canonical _)
  | sra => exact ran_register rfl rfl (fun _ => sext64_canonical _)
  | sllv => exact ran_register rfl rfl (fun _ => sext64_canonical _)
  | srlv => exact ran_register rfl rfl (fun _ => sext64_canonical _)
  | srav => exact ran_register rfl rfl (fun _ => sext64_canonical _)
  | jr => exact ran_transfer rfl rfl
  | jalr => exact ran_faults rfl rfl
  | syscall => exact ran_faults rfl rfl
  | brk => exact ran_faults rfl rfl
  | sync => exact ran_faults rfl rfl
  | mfhi => exact ran_register rfl rfl (fun h => h.2.1)
  | mthi => exact ran_faults rfl rfl
  | mflo => exact ran_register rfl rfl (fun h => h.2.2)
  | mtlo => exact ran_faults rfl rfl
  | dsllv => exact ran_faults rfl rfl
  | dsrlv => exact ran_faults rfl rfl
  | dsrav => exact ran_faults rfl rfl
  | mult => simp only [exec, execMult, finish_setProduct]; exact .accumulators _ _ rfl (sext64_canonical _) (sext64_canonical _)
  | multu => simp only [exec, execMultu, finish_setProduct]; exact .accumulators _ _ rfl (sext64_canonical _) (sext64_canonical _)
  | div => exact ran_faults rfl rfl
  | divu => exact ran_faults rfl rfl
  | dmult => exact ran_faults rfl rfl
  | dmultu => exact ran_faults rfl rfl
  | ddiv => exact ran_faults rfl rfl
  | ddivu => exact ran_faults rfl rfl
  | add => exact ran_register rfl rfl (fun _ => sext64_canonical _)
  | addu => exact ran_register rfl rfl (fun _ => sext64_canonical _)
  | sub => exact ran_register rfl rfl (fun _ => sext64_canonical _)
  | subu => exact ran_register rfl rfl (fun _ => sext64_canonical _)
  | and => exact ran_register rfl rfl (fun h => canonicalValue_and (h.1 _) (h.1 _))
  | or => exact ran_register rfl rfl (fun h => canonicalValue_or (h.1 _) (h.1 _))
  | xor => exact ran_register rfl rfl (fun h => canonicalValue_xor (h.1 _) (h.1 _))
  | nor => exact ran_faults rfl rfl
  | slt => exact ran_register rfl rfl (fun _ => canonicalValue_compareResult _)
  | sltu => exact ran_register rfl rfl (fun _ => canonicalValue_compareResult _)
  | dadd => exact ran_faults rfl rfl
  | daddu => exact ran_faults rfl rfl
  | dsub => exact ran_faults rfl rfl
  | dsubu => exact ran_faults rfl rfl
  | tge => exact ran_faults rfl rfl
  | tgeu => exact ran_faults rfl rfl
  | tlt => exact ran_faults rfl rfl
  | tltu => exact ran_faults rfl rfl
  | teq => exact ran_faults rfl rfl
  | tne => exact ran_faults rfl rfl
  | dsll => exact ran_faults rfl rfl
  | dsrl => exact ran_faults rfl rfl
  | dsra => exact ran_faults rfl rfl
  | dsll32 => exact ran_faults rfl rfl
  | dsrl32 => exact ran_faults rfl rfl
  | dsra32 => exact ran_faults rfl rfl
  | bltz => exact ran_branch rfl rfl
  | bgez => exact ran_branch rfl rfl
  | bltzl => exact ran_likely rfl rfl
  | bgezl => exact ran_likely rfl rfl
  | tgei => exact ran_faults rfl rfl
  | tgeiu => exact ran_faults rfl rfl
  | tlti => exact ran_faults rfl rfl
  | tltiu => exact ran_faults rfl rfl
  | teqi => exact ran_faults rfl rfl
  | tnei => exact ran_faults rfl rfl
  | bltzal rs imm16 =>
    by_cases h : rs = linkReg
    · have he : exec (.bltzal rs imm16) s = .refused .linkRegisterTested := if_pos h
      rw [he]; exact .linkRegisterTested (by simp [Instr.wellFormed, h])
    · exact ran_link rfl (if_neg h)
  | bgezal rs imm16 =>
    by_cases h : rs = linkReg
    · have he : exec (.bgezal rs imm16) s = .refused .linkRegisterTested := if_pos h
      rw [he]; exact .linkRegisterTested (by simp [Instr.wellFormed, h])
    · exact ran_link rfl (if_neg h)
  | bltzall => exact ran_faults rfl rfl
  | bgezall => exact ran_faults rfl rfl
  | mfc0 => exact ran_register rfl rfl (fun _ => sext64_canonical _)
  | dmfc0 => exact ran_faults rfl rfl
  | mtc0 rt rd low11 =>
    by_cases h : Params.writable s.params rd = true
    · have he : exec (.mtc0 rt rd low11) s = finish s (s.setC0 rd (lo32 (s.getX rt))) := if_pos h
      rw [he, finish_setC0]; exact .control rd _ rfl h
    · have he : exec (.mtc0 rt rd low11) s = raiseUnimplemented (encode (.mtc0 rt rd low11)) s := if_neg h
      rw [he]; exact .unimplemented (.inr ⟨rd, rfl, by simpa using h⟩)
  | dmtc0 => exact ran_faults rfl rfl
  | bc0 => exact ran_faults rfl rfl
  | tlbr => exact ran_faults rfl rfl
  | tlbwi => exact ran_faults rfl rfl
  | tlbwr => exact ran_faults rfl rfl
  | tlbp => exact ran_faults rfl rfl
  | eret => exact ran_faults rfl rfl

/-- The host interface's outcome `fault` is used by nothing. -/
theorem exec_ne_fault (i : Instr) (s : State) (f : Fault) : exec i s ≠ .fault f := nomatch f

/-! ## What a step can do -/

/-- All that a step can do from `s`. -/
inductive Stepped (s : State) : Outcome → Prop where
  | halted : s.halt = true → Stepped s (.next s)
  | fetchFault : s.halt = false → s.faults (.readWord s.pc) = true →
      Stepped s (.next ((s.called (.readWord s.pc)).capture (.memoryFault s.pc) none))
  | reserved (w : Word) (e : DecodeError) : s.halt = false → s.fetches w → decode w = .error e →
      Stepped s (.next ((s.called (.readWord s.pc)).capture .unimplementedOperation (some w)))
  | ran (w : Word) (i : Instr) (o : Outcome) : s.halt = false → s.fetches w → decode w = .ok i →
      o = exec i (s.called (.readWord s.pc)) → Ran i (s.called (.readWord s.pc)) o → Stepped s o

theorem step_of_halt {s : State} (h : s.halt = true) : step s = .next s := by simp [step, loopTurn, h]

theorem step_of_fetches {s : State} {w : Word} (h : s.halt = false) (hf : s.fetches w) :
    step s = dispatchWord w (s.called (.readWord s.pc)) := by
  simp [step, loopTurn, h, loopPass, fetch, State.memReadWord, hf.1, hf.2]

theorem step_of_fetchFault {s : State} (h : s.halt = false) (hf : s.faults (.readWord s.pc) = true) :
    step s = .next ((s.called (.readWord s.pc)).capture (.memoryFault s.pc) none) := by
  simp [step, loopTurn, h, loopPass, fetch, State.memReadWord, hf]

/-- Every step does one of these. -/
theorem step_stepped (s : State) : Stepped s (step s) := by
  cases h : s.halt with
  | true => rw [step_of_halt h]; exact .halted h
  | false =>
    cases hf : s.faults (.readWord s.pc) with
    | true => rw [step_of_fetchFault h hf]; exact .fetchFault h hf
    | false =>
      have hw : s.fetches (s.answeredWord s.pc) := ⟨hf, rfl⟩
      rw [step_of_fetches h hw]
      unfold dispatchWord
      cases hd : decode (s.answeredWord s.pc) with
      | ok i => exact .ran _ i _ h hw hd rfl (exec_ran ..)
      | error e => exact .reserved _ e h hw hd

/-- A call keeps a bound byte bound if it does not write it (20_memory.md R56). -/
theorem called_keeps_settled {s : State} {c : PortCall} {a : Word} (h : a ∈ s.settled) (hc : c.writes a = false) :
    a ∈ (s.called c).settled := mem_settledAfter.2 (.inl ⟨h, hc⟩)

/-- What an instruction sends out on the port, and that a bound byte stays bound, and keeps its value, through calls that do not
write it (20_memory.md R56). -/
theorem exec_keeps_byte {i : Instr} {s t : State} (h : exec i s = .next t) :
    ∃ calls, t.out.portCalls = calls ++ s.out.portCalls ∧ ∀ a ∈ s.settled, (∀ c ∈ calls, c.writes a = false) →
      a ∈ t.settled ∧ t.mem.read a.toNat = s.mem.read a.toNat := by
  have hr := h ▸ exec_ran i s
  cases hr with
  | loaded c => exact ⟨[c], by simp, fun a ha hc => ⟨called_keeps_settled ha (by simpa using hc), rfl⟩⟩
  | stored c m _ _ _ hm =>
    exact ⟨[c], by simp, fun a ha hc => ⟨called_keeps_settled ha (by simpa using hc), hm a (by simpa using hc)⟩⟩
  | portFault c => exact ⟨[c], by simp, fun a ha hc => ⟨called_keeps_settled ha (by simpa using hc), rfl⟩⟩
  | _ => exact ⟨[], by simp, fun a ha _ => ⟨by simpa using ha, by simp⟩⟩

/-- The same of a step, whose fetch writes nothing. -/
theorem step_keeps_byte {s t : State} (h : step s = .next t) :
    ∃ calls, t.out.portCalls = calls ++ s.out.portCalls ∧ ∀ a ∈ s.settled, (∀ c ∈ calls, c.writes a = false) →
      a ∈ t.settled ∧ t.mem.read a.toNat = s.mem.read a.toNat := by
  have fetched : ∀ a ∈ s.settled, a ∈ (s.called (.readWord s.pc)).settled := fun a ha => called_keeps_settled ha rfl
  have hs := h ▸ step_stepped s
  cases hs with
  | halted => exact ⟨[], rfl, fun a ha _ => ⟨ha, rfl⟩⟩
  | fetchFault => exact ⟨[.readWord s.pc], rfl, fun a ha _ => ⟨fetched a ha, rfl⟩⟩
  | reserved => exact ⟨[.readWord s.pc], rfl, fun a ha _ => ⟨fetched a ha, rfl⟩⟩
  | ran w i _ _ _ _ he =>
    obtain ⟨calls, hc, hk⟩ := exec_keeps_byte he.symm
    exact ⟨calls ++ [.readWord s.pc], by simp [hc], fun a ha hw =>
      hk a (fetched a ha) fun c hm => hw c (List.mem_append_left _ hm)⟩

theorem step_ne_fault (s : State) (f : Fault) : step s ≠ .fault f := nomatch f

/-! ## Runs of steps -/

/-- The host interface's runner, by the outcome of its first step. -/
theorem coreRun_succ (M : Host.Core) (n : Nat) (s : M.State) :
    (∀ t, M.step s = .next t → M.run (n + 1) s = M.run n t) ∧ (∀ r, M.step s = .fault r → M.run (n + 1) s = .fault r) ∧
      (∀ r, M.step s = .refused r → M.run (n + 1) s = .refused r) := by
  refine ⟨fun t h => ?_, fun r h => ?_, fun r h => ?_⟩ <;> simp only [Host.Core.run, h]

@[simp] theorem runSteps_zero (s : State) : runSteps 0 s = .next s := rfl

theorem runSteps_succ (n : Nat) (s : State) :
    runSteps (n + 1) s =
      match step s with
      | .next t => runSteps n t
      | .fault r => .fault r
      | .refused r => .refused r := by
  have h := coreRun_succ Sys2Proof.core n s
  cases hs : step s with
  | next t => exact h.1 t hs
  | fault r => exact h.2.1 r hs
  | refused r => exact h.2.2 r hs

/-- A halted core stays where it is. -/
theorem runSteps_of_halt : ∀ (n : Nat) {s : State}, s.halt = true → runSteps n s = .next s
  | 0, _, _ => rfl
  | n + 1, s, h => by rw [runSteps_succ, step_of_halt h]; exact runSteps_of_halt n h

end Sys2Proof.Machine
end

