-- ==== Sys2Proof/Laws/PerInstr.lean ====
section
/-! SUPPORT. PerInstr: statements made of every instruction as syntax, one lemma per constructor. -/

namespace Sys2Proof.Laws.TableRow

/-- The opcode table has a row with the instruction's mnemonic that selects the instruction's word (30_encoding.md R79). -/
def Statement (i : Instr) : Prop := ∃ r ∈ opcodeTable, r.mnemonic = i.mnemonic ∧ r.selects (encode i) = true

theorem of_row {i : Instr} (k : Nat) {r : TableRow} (h : opcodeTable[k]? = some r) (hm : r.mnemonic = i.mnemonic)
    (hs : encode i &&& r.mask = r.pattern) : Statement i :=
  ⟨r, List.mem_of_getElem? h, hm, by simp [TableRow.selects, hs]⟩

theorem encodeI_and (op : BitVec 6) (rs rt : RegId) (imm16 : BitVec 16) :
    encodeI op rs rt imm16 &&& 0xFC000000 = op ++ 0#26 := by rw [and_primaryMask, opcodeOf_encodeI]

theorem encodeJ_and (op : BitVec 6) (t : BitVec 26) : encodeJ op t &&& 0xFC000000 = op ++ 0#26 := by
  rw [and_primaryMask, opcodeOf_encodeJ]

theorem encodeR_and (f : BitVec 6) (rs rt rd : RegId) (sa : BitVec 5) :
    encodeR f rs rt rd sa &&& 0xFC00003F = 0#6 ++ 0#20 ++ f := by rw [and_specialMask, opcodeOf_encodeR, functOf_encodeR]

theorem encodeCode_and (f : BitVec 6) (code : BitVec 20) : encodeCode f code &&& 0xFC00003F = 0#6 ++ 0#20 ++ f := by
  rw [and_specialMask, opcodeOf_encodeCode, functOf_encodeCode]

theorem encodeI_and_regimm (rs rt : RegId) (imm16 : BitVec 16) :
    encodeI 1 rs rt imm16 &&& 0xFC1F0000 = 1#6 ++ 0#5 ++ rt ++ 0#16 := by rw [and_regimmMask, opcodeOf_encodeI, rtOf_encodeI]; rfl

theorem encodeI_and_cop0 (rs rt : RegId) (imm16 : BitVec 16) :
    encodeI 16 rs rt imm16 &&& 0xFFE00000 = 16#6 ++ rs ++ 0#21 := by rw [and_cop0Mask, opcodeOf_encodeI, rsOf_encodeI]; rfl

theorem encodeC0_and (rs rt rd : RegId) (low11 : BitVec 11) :
    encodeC0 rs rt rd low11 &&& 0xFFE00000 = 16#6 ++ rs ++ 0#21 := by rw [and_cop0Mask, opcodeOf_encodeC0, rsOf_encodeC0]

theorem encodeCo_and (f : BitVec 6) (co : BitVec 19) : encodeCo f co &&& 0xFE00003F = 16#6 ++ 1#1 ++ 0#19 ++ f := by
  rw [and_coMask, opcodeOf_encodeCo, rsOf_encodeCo, functOf_encodeCo]; rfl

theorem j (target26 : BitVec 26) : Statement (.j target26) :=
  of_row 0 (r := ⟨"J", 0xFC000000, 0x08000000⟩) rfl rfl (encodeJ_and ..)
theorem jal (target26 : BitVec 26) : Statement (.jal target26) :=
  of_row 1 (r := ⟨"JAL", 0xFC000000, 0x0C000000⟩) rfl rfl (encodeJ_and ..)
theorem beq (rs rt : RegId) (imm16 : BitVec 16) : Statement (.beq rs rt imm16) :=
  of_row 2 (r := ⟨"BEQ", 0xFC000000, 0x10000000⟩) rfl rfl (encodeI_and ..)
theorem bne (rs rt : RegId) (imm16 : BitVec 16) : Statement (.bne rs rt imm16) :=
  of_row 3 (r := ⟨"BNE", 0xFC000000, 0x14000000⟩) rfl rfl (encodeI_and ..)
theorem blez (rs rt : RegId) (imm16 : BitVec 16) : Statement (.blez rs rt imm16) :=
  of_row 4 (r := ⟨"BLEZ", 0xFC000000, 0x18000000⟩) rfl rfl (encodeI_and ..)
theorem bgtz (rs rt : RegId) (imm16 : BitVec 16) : Statement (.bgtz rs rt imm16) :=
  of_row 5 (r := ⟨"BGTZ", 0xFC000000, 0x1C000000⟩) rfl rfl (encodeI_and ..)
theorem addi (rs rt : RegId) (imm16 : BitVec 16) : Statement (.addi rs rt imm16) :=
  of_row 6 (r := ⟨"ADDI", 0xFC000000, 0x20000000⟩) rfl rfl (encodeI_and ..)
theorem addiu (rs rt : RegId) (imm16 : BitVec 16) : Statement (.addiu rs rt imm16) :=
  of_row 7 (r := ⟨"ADDIU", 0xFC000000, 0x24000000⟩) rfl rfl (encodeI_and ..)
theorem slti (rs rt : RegId) (imm16 : BitVec 16) : Statement (.slti rs rt imm16) :=
  of_row 8 (r := ⟨"SLTI", 0xFC000000, 0x28000000⟩) rfl rfl (encodeI_and ..)
theorem sltiu (rs rt : RegId) (imm16 : BitVec 16) : Statement (.sltiu rs rt imm16) :=
  of_row 9 (r := ⟨"SLTIU", 0xFC000000, 0x2C000000⟩) rfl rfl (encodeI_and ..)
theorem andi (rs rt : RegId) (imm16 : BitVec 16) : Statement (.andi rs rt imm16) :=
  of_row 10 (r := ⟨"ANDI", 0xFC000000, 0x30000000⟩) rfl rfl (encodeI_and ..)
theorem ori (rs rt : RegId) (imm16 : BitVec 16) : Statement (.ori rs rt imm16) :=
  of_row 11 (r := ⟨"ORI", 0xFC000000, 0x34000000⟩) rfl rfl (encodeI_and ..)
theorem xori (rs rt : RegId) (imm16 : BitVec 16) : Statement (.xori rs rt imm16) :=
  of_row 12 (r := ⟨"XORI", 0xFC000000, 0x38000000⟩) rfl rfl (encodeI_and ..)
theorem lui (rs rt : RegId) (imm16 : BitVec 16) : Statement (.lui rs rt imm16) :=
  of_row 13 (r := ⟨"LUI", 0xFC000000, 0x3C000000⟩) rfl rfl (encodeI_and ..)
theorem cop1 (body : BitVec 26) : Statement (.cop1 body) :=
  of_row 14 (r := ⟨"COP1", 0xFC000000, 0x44000000⟩) rfl rfl (encodeJ_and ..)
theorem cop2 (body : BitVec 26) : Statement (.cop2 body) :=
  of_row 15 (r := ⟨"COP2", 0xFC000000, 0x48000000⟩) rfl rfl (encodeJ_and ..)
theorem beql (rs rt : RegId) (imm16 : BitVec 16) : Statement (.beql rs rt imm16) :=
  of_row 16 (r := ⟨"BEQL", 0xFC000000, 0x50000000⟩) rfl rfl (encodeI_and ..)
theorem bnel (rs rt : RegId) (imm16 : BitVec 16) : Statement (.bnel rs rt imm16) :=
  of_row 17 (r := ⟨"BNEL", 0xFC000000, 0x54000000⟩) rfl rfl (encodeI_and ..)
theorem blezl (rs rt : RegId) (imm16 : BitVec 16) : Statement (.blezl rs rt imm16) :=
  of_row 18 (r := ⟨"BLEZL", 0xFC000000, 0x58000000⟩) rfl rfl (encodeI_and ..)
theorem bgtzl (rs rt : RegId) (imm16 : BitVec 16) : Statement (.bgtzl rs rt imm16) :=
  of_row 19 (r := ⟨"BGTZL", 0xFC000000, 0x5C000000⟩) rfl rfl (encodeI_and ..)
theorem daddi (rs rt : RegId) (imm16 : BitVec 16) : Statement (.daddi rs rt imm16) :=
  of_row 20 (r := ⟨"DADDI", 0xFC000000, 0x60000000⟩) rfl rfl (encodeI_and ..)
theorem daddiu (rs rt : RegId) (imm16 : BitVec 16) : Statement (.daddiu rs rt imm16) :=
  of_row 21 (r := ⟨"DADDIU", 0xFC000000, 0x64000000⟩) rfl rfl (encodeI_and ..)
theorem ldl (rs rt : RegId) (imm16 : BitVec 16) : Statement (.ldl rs rt imm16) :=
  of_row 22 (r := ⟨"LDL", 0xFC000000, 0x68000000⟩) rfl rfl (encodeI_and ..)
theorem ldr (rs rt : RegId) (imm16 : BitVec 16) : Statement (.ldr rs rt imm16) :=
  of_row 23 (r := ⟨"LDR", 0xFC000000, 0x6C000000⟩) rfl rfl (encodeI_and ..)
theorem lb (rs rt : RegId) (imm16 : BitVec 16) : Statement (.lb rs rt imm16) :=
  of_row 24 (r := ⟨"LB", 0xFC000000, 0x80000000⟩) rfl rfl (encodeI_and ..)
theorem lh (rs rt : RegId) (imm16 : BitVec 16) : Statement (.lh rs rt imm16) :=
  of_row 25 (r := ⟨"LH", 0xFC000000, 0x84000000⟩) rfl rfl (encodeI_and ..)
theorem lwl (rs rt : RegId) (imm16 : BitVec 16) : Statement (.lwl rs rt imm16) :=
  of_row 26 (r := ⟨"LWL", 0xFC000000, 0x88000000⟩) rfl rfl (encodeI_and ..)
theorem lw (rs rt : RegId) (imm16 : BitVec 16) : Statement (.lw rs rt imm16) :=
  of_row 27 (r := ⟨"LW", 0xFC000000, 0x8C000000⟩) rfl rfl (encodeI_and ..)
theorem lbu (rs rt : RegId) (imm16 : BitVec 16) : Statement (.lbu rs rt imm16) :=
  of_row 28 (r := ⟨"LBU", 0xFC000000, 0x90000000⟩) rfl rfl (encodeI_and ..)
theorem lhu (rs rt : RegId) (imm16 : BitVec 16) : Statement (.lhu rs rt imm16) :=
  of_row 29 (r := ⟨"LHU", 0xFC000000, 0x94000000⟩) rfl rfl (encodeI_and ..)
theorem lwr (rs rt : RegId) (imm16 : BitVec 16) : Statement (.lwr rs rt imm16) :=
  of_row 30 (r := ⟨"LWR", 0xFC000000, 0x98000000⟩) rfl rfl (encodeI_and ..)
theorem lwu (rs rt : RegId) (imm16 : BitVec 16) : Statement (.lwu rs rt imm16) :=
  of_row 31 (r := ⟨"LWU", 0xFC000000, 0x9C000000⟩) rfl rfl (encodeI_and ..)
theorem sb (rs rt : RegId) (imm16 : BitVec 16) : Statement (.sb rs rt imm16) :=
  of_row 32 (r := ⟨"SB", 0xFC000000, 0xA0000000⟩) rfl rfl (encodeI_and ..)
theorem sh (rs rt : RegId) (imm16 : BitVec 16) : Statement (.sh rs rt imm16) :=
  of_row 33 (r := ⟨"SH", 0xFC000000, 0xA4000000⟩) rfl rfl (encodeI_and ..)
theorem swl (rs rt : RegId) (imm16 : BitVec 16) : Statement (.swl rs rt imm16) :=
  of_row 34 (r := ⟨"SWL", 0xFC000000, 0xA8000000⟩) rfl rfl (encodeI_and ..)
theorem sw (rs rt : RegId) (imm16 : BitVec 16) : Statement (.sw rs rt imm16) :=
  of_row 35 (r := ⟨"SW", 0xFC000000, 0xAC000000⟩) rfl rfl (encodeI_and ..)
theorem sdl (rs rt : RegId) (imm16 : BitVec 16) : Statement (.sdl rs rt imm16) :=
  of_row 36 (r := ⟨"SDL", 0xFC000000, 0xB0000000⟩) rfl rfl (encodeI_and ..)
theorem sdr (rs rt : RegId) (imm16 : BitVec 16) : Statement (.sdr rs rt imm16) :=
  of_row 37 (r := ⟨"SDR", 0xFC000000, 0xB4000000⟩) rfl rfl (encodeI_and ..)
theorem swr (rs rt : RegId) (imm16 : BitVec 16) : Statement (.swr rs rt imm16) :=
  of_row 38 (r := ⟨"SWR", 0xFC000000, 0xB8000000⟩) rfl rfl (encodeI_and ..)
theorem cache (rs rt : RegId) (imm16 : BitVec 16) : Statement (.cache rs rt imm16) :=
  of_row 39 (r := ⟨"CACHE", 0xFC000000, 0xBC000000⟩) rfl rfl (encodeI_and ..)
theorem ll (rs rt : RegId) (imm16 : BitVec 16) : Statement (.ll rs rt imm16) :=
  of_row 40 (r := ⟨"LL", 0xFC000000, 0xC0000000⟩) rfl rfl (encodeI_and ..)
theorem lwc1 (rs rt : RegId) (imm16 : BitVec 16) : Statement (.lwc1 rs rt imm16) :=
  of_row 41 (r := ⟨"LWC1", 0xFC000000, 0xC4000000⟩) rfl rfl (encodeI_and ..)
theorem lwc2 (rs rt : RegId) (imm16 : BitVec 16) : Statement (.lwc2 rs rt imm16) :=
  of_row 42 (r := ⟨"LWC2", 0xFC000000, 0xC8000000⟩) rfl rfl (encodeI_and ..)
theorem lld (rs rt : RegId) (imm16 : BitVec 16) : Statement (.lld rs rt imm16) :=
  of_row 43 (r := ⟨"LLD", 0xFC000000, 0xD0000000⟩) rfl rfl (encodeI_and ..)
theorem ldc1 (rs rt : RegId) (imm16 : BitVec 16) : Statement (.ldc1 rs rt imm16) :=
  of_row 44 (r := ⟨"LDC1", 0xFC000000, 0xD4000000⟩) rfl rfl (encodeI_and ..)
theorem ldc2 (rs rt : RegId) (imm16 : BitVec 16) : Statement (.ldc2 rs rt imm16) :=
  of_row 45 (r := ⟨"LDC2", 0xFC000000, 0xD8000000⟩) rfl rfl (encodeI_and ..)
theorem ld (rs rt : RegId) (imm16 : BitVec 16) : Statement (.ld rs rt imm16) :=
  of_row 46 (r := ⟨"LD", 0xFC000000, 0xDC000000⟩) rfl rfl (encodeI_and ..)
theorem sc (rs rt : RegId) (imm16 : BitVec 16) : Statement (.sc rs rt imm16) :=
  of_row 47 (r := ⟨"SC", 0xFC000000, 0xE0000000⟩) rfl rfl (encodeI_and ..)
theorem swc1 (rs rt : RegId) (imm16 : BitVec 16) : Statement (.swc1 rs rt imm16) :=
  of_row 48 (r := ⟨"SWC1", 0xFC000000, 0xE4000000⟩) rfl rfl (encodeI_and ..)
theorem swc2 (rs rt : RegId) (imm16 : BitVec 16) : Statement (.swc2 rs rt imm16) :=
  of_row 49 (r := ⟨"SWC2", 0xFC000000, 0xE8000000⟩) rfl rfl (encodeI_and ..)
theorem scd (rs rt : RegId) (imm16 : BitVec 16) : Statement (.scd rs rt imm16) :=
  of_row 50 (r := ⟨"SCD", 0xFC000000, 0xF0000000⟩) rfl rfl (encodeI_and ..)
theorem sdc1 (rs rt : RegId) (imm16 : BitVec 16) : Statement (.sdc1 rs rt imm16) :=
  of_row 51 (r := ⟨"SDC1", 0xFC000000, 0xF4000000⟩) rfl rfl (encodeI_and ..)
theorem sdc2 (rs rt : RegId) (imm16 : BitVec 16) : Statement (.sdc2 rs rt imm16) :=
  of_row 52 (r := ⟨"SDC2", 0xFC000000, 0xF8000000⟩) rfl rfl (encodeI_and ..)
theorem sd (rs rt : RegId) (imm16 : BitVec 16) : Statement (.sd rs rt imm16) :=
  of_row 53 (r := ⟨"SD", 0xFC000000, 0xFC000000⟩) rfl rfl (encodeI_and ..)
theorem sll (rs rt rd : RegId) (sa : BitVec 5) : Statement (.sll rs rt rd sa) :=
  of_row 54 (r := ⟨"SLL", 0xFC00003F, 0x00000000⟩) rfl rfl (encodeR_and ..)
theorem srl (rs rt rd : RegId) (sa : BitVec 5) : Statement (.srl rs rt rd sa) :=
  of_row 55 (r := ⟨"SRL", 0xFC00003F, 0x00000002⟩) rfl rfl (encodeR_and ..)
theorem sra (rs rt rd : RegId) (sa : BitVec 5) : Statement (.sra rs rt rd sa) :=
  of_row 56 (r := ⟨"SRA", 0xFC00003F, 0x00000003⟩) rfl rfl (encodeR_and ..)
theorem sllv (rs rt rd : RegId) (sa : BitVec 5) : Statement (.sllv rs rt rd sa) :=
  of_row 57 (r := ⟨"SLLV", 0xFC00003F, 0x00000004⟩) rfl rfl (encodeR_and ..)
theorem srlv (rs rt rd : RegId) (sa : BitVec 5) : Statement (.srlv rs rt rd sa) :=
  of_row 58 (r := ⟨"SRLV", 0xFC00003F, 0x00000006⟩) rfl rfl (encodeR_and ..)
theorem srav (rs rt rd : RegId) (sa : BitVec 5) : Statement (.srav rs rt rd sa) :=
  of_row 59 (r := ⟨"SRAV", 0xFC00003F, 0x00000007⟩) rfl rfl (encodeR_and ..)
theorem jr (rs rt rd : RegId) (sa : BitVec 5) : Statement (.jr rs rt rd sa) :=
  of_row 60 (r := ⟨"JR", 0xFC00003F, 0x00000008⟩) rfl rfl (encodeR_and ..)
theorem jalr (rs rt rd : RegId) (sa : BitVec 5) : Statement (.jalr rs rt rd sa) :=
  of_row 61 (r := ⟨"JALR", 0xFC00003F, 0x00000009⟩) rfl rfl (encodeR_and ..)
theorem syscall (code : BitVec 20) : Statement (.syscall code) :=
  of_row 62 (r := ⟨"SYSCALL", 0xFC00003F, 0x0000000C⟩) rfl rfl (encodeCode_and ..)
theorem brk (code : BitVec 20) : Statement (.brk code) :=
  of_row 63 (r := ⟨"BREAK", 0xFC00003F, 0x0000000D⟩) rfl rfl (encodeCode_and ..)
theorem sync (code : BitVec 20) : Statement (.sync code) :=
  of_row 64 (r := ⟨"SYNC", 0xFC00003F, 0x0000000F⟩) rfl rfl (encodeCode_and ..)
theorem mfhi (rs rt rd : RegId) (sa : BitVec 5) : Statement (.mfhi rs rt rd sa) :=
  of_row 65 (r := ⟨"MFHI", 0xFC00003F, 0x00000010⟩) rfl rfl (encodeR_and ..)
theorem mthi (rs rt rd : RegId) (sa : BitVec 5) : Statement (.mthi rs rt rd sa) :=
  of_row 66 (r := ⟨"MTHI", 0xFC00003F, 0x00000011⟩) rfl rfl (encodeR_and ..)
theorem mflo (rs rt rd : RegId) (sa : BitVec 5) : Statement (.mflo rs rt rd sa) :=
  of_row 67 (r := ⟨"MFLO", 0xFC00003F, 0x00000012⟩) rfl rfl (encodeR_and ..)
theorem mtlo (rs rt rd : RegId) (sa : BitVec 5) : Statement (.mtlo rs rt rd sa) :=
  of_row 68 (r := ⟨"MTLO", 0xFC00003F, 0x00000013⟩) rfl rfl (encodeR_and ..)
theorem dsllv (rs rt rd : RegId) (sa : BitVec 5) : Statement (.dsllv rs rt rd sa) :=
  of_row 69 (r := ⟨"DSLLV", 0xFC00003F, 0x00000014⟩) rfl rfl (encodeR_and ..)
theorem dsrlv (rs rt rd : RegId) (sa : BitVec 5) : Statement (.dsrlv rs rt rd sa) :=
  of_row 70 (r := ⟨"DSRLV", 0xFC00003F, 0x00000016⟩) rfl rfl (encodeR_and ..)
theorem dsrav (rs rt rd : RegId) (sa : BitVec 5) : Statement (.dsrav rs rt rd sa) :=
  of_row 71 (r := ⟨"DSRAV", 0xFC00003F, 0x00000017⟩) rfl rfl (encodeR_and ..)
theorem mult (rs rt rd : RegId) (sa : BitVec 5) : Statement (.mult rs rt rd sa) :=
  of_row 72 (r := ⟨"MULT", 0xFC00003F, 0x00000018⟩) rfl rfl (encodeR_and ..)
theorem multu (rs rt rd : RegId) (sa : BitVec 5) : Statement (.multu rs rt rd sa) :=
  of_row 73 (r := ⟨"MULTU", 0xFC00003F, 0x00000019⟩) rfl rfl (encodeR_and ..)
theorem div (rs rt rd : RegId) (sa : BitVec 5) : Statement (.div rs rt rd sa) :=
  of_row 74 (r := ⟨"DIV", 0xFC00003F, 0x0000001A⟩) rfl rfl (encodeR_and ..)
theorem divu (rs rt rd : RegId) (sa : BitVec 5) : Statement (.divu rs rt rd sa) :=
  of_row 75 (r := ⟨"DIVU", 0xFC00003F, 0x0000001B⟩) rfl rfl (encodeR_and ..)
theorem dmult (rs rt rd : RegId) (sa : BitVec 5) : Statement (.dmult rs rt rd sa) :=
  of_row 76 (r := ⟨"DMULT", 0xFC00003F, 0x0000001C⟩) rfl rfl (encodeR_and ..)
theorem dmultu (rs rt rd : RegId) (sa : BitVec 5) : Statement (.dmultu rs rt rd sa) :=
  of_row 77 (r := ⟨"DMULTU", 0xFC00003F, 0x0000001D⟩) rfl rfl (encodeR_and ..)
theorem ddiv (rs rt rd : RegId) (sa : BitVec 5) : Statement (.ddiv rs rt rd sa) :=
  of_row 78 (r := ⟨"DDIV", 0xFC00003F, 0x0000001E⟩) rfl rfl (encodeR_and ..)
theorem ddivu (rs rt rd : RegId) (sa : BitVec 5) : Statement (.ddivu rs rt rd sa) :=
  of_row 79 (r := ⟨"DDIVU", 0xFC00003F, 0x0000001F⟩) rfl rfl (encodeR_and ..)
theorem add (rs rt rd : RegId) (sa : BitVec 5) : Statement (.add rs rt rd sa) :=
  of_row 80 (r := ⟨"ADD", 0xFC00003F, 0x00000020⟩) rfl rfl (encodeR_and ..)
theorem addu (rs rt rd : RegId) (sa : BitVec 5) : Statement (.addu rs rt rd sa) :=
  of_row 81 (r := ⟨"ADDU", 0xFC00003F, 0x00000021⟩) rfl rfl (encodeR_and ..)
theorem sub (rs rt rd : RegId) (sa : BitVec 5) : Statement (.sub rs rt rd sa) :=
  of_row 82 (r := ⟨"SUB", 0xFC00003F, 0x00000022⟩) rfl rfl (encodeR_and ..)
theorem subu (rs rt rd : RegId) (sa : BitVec 5) : Statement (.subu rs rt rd sa) :=
  of_row 83 (r := ⟨"SUBU", 0xFC00003F, 0x00000023⟩) rfl rfl (encodeR_and ..)
theorem and (rs rt rd : RegId) (sa : BitVec 5) : Statement (.and rs rt rd sa) :=
  of_row 84 (r := ⟨"AND", 0xFC00003F, 0x00000024⟩) rfl rfl (encodeR_and ..)
theorem or (rs rt rd : RegId) (sa : BitVec 5) : Statement (.or rs rt rd sa) :=
  of_row 85 (r := ⟨"OR", 0xFC00003F, 0x00000025⟩) rfl rfl (encodeR_and ..)
theorem xor (rs rt rd : RegId) (sa : BitVec 5) : Statement (.xor rs rt rd sa) :=
  of_row 86 (r := ⟨"XOR", 0xFC00003F, 0x00000026⟩) rfl rfl (encodeR_and ..)
theorem nor (rs rt rd : RegId) (sa : BitVec 5) : Statement (.nor rs rt rd sa) :=
  of_row 87 (r := ⟨"NOR", 0xFC00003F, 0x00000027⟩) rfl rfl (encodeR_and ..)
theorem slt (rs rt rd : RegId) (sa : BitVec 5) : Statement (.slt rs rt rd sa) :=
  of_row 88 (r := ⟨"SLT", 0xFC00003F, 0x0000002A⟩) rfl rfl (encodeR_and ..)
theorem sltu (rs rt rd : RegId) (sa : BitVec 5) : Statement (.sltu rs rt rd sa) :=
  of_row 89 (r := ⟨"SLTU", 0xFC00003F, 0x0000002B⟩) rfl rfl (encodeR_and ..)
theorem dadd (rs rt rd : RegId) (sa : BitVec 5) : Statement (.dadd rs rt rd sa) :=
  of_row 90 (r := ⟨"DADD", 0xFC00003F, 0x0000002C⟩) rfl rfl (encodeR_and ..)
theorem daddu (rs rt rd : RegId) (sa : BitVec 5) : Statement (.daddu rs rt rd sa) :=
  of_row 91 (r := ⟨"DADDU", 0xFC00003F, 0x0000002D⟩) rfl rfl (encodeR_and ..)
theorem dsub (rs rt rd : RegId) (sa : BitVec 5) : Statement (.dsub rs rt rd sa) :=
  of_row 92 (r := ⟨"DSUB", 0xFC00003F, 0x0000002E⟩) rfl rfl (encodeR_and ..)
theorem dsubu (rs rt rd : RegId) (sa : BitVec 5) : Statement (.dsubu rs rt rd sa) :=
  of_row 93 (r := ⟨"DSUBU", 0xFC00003F, 0x0000002F⟩) rfl rfl (encodeR_and ..)
theorem tge (rs rt rd : RegId) (sa : BitVec 5) : Statement (.tge rs rt rd sa) :=
  of_row 94 (r := ⟨"TGE", 0xFC00003F, 0x00000030⟩) rfl rfl (encodeR_and ..)
theorem tgeu (rs rt rd : RegId) (sa : BitVec 5) : Statement (.tgeu rs rt rd sa) :=
  of_row 95 (r := ⟨"TGEU", 0xFC00003F, 0x00000031⟩) rfl rfl (encodeR_and ..)
theorem tlt (rs rt rd : RegId) (sa : BitVec 5) : Statement (.tlt rs rt rd sa) :=
  of_row 96 (r := ⟨"TLT", 0xFC00003F, 0x00000032⟩) rfl rfl (encodeR_and ..)
theorem tltu (rs rt rd : RegId) (sa : BitVec 5) : Statement (.tltu rs rt rd sa) :=
  of_row 97 (r := ⟨"TLTU", 0xFC00003F, 0x00000033⟩) rfl rfl (encodeR_and ..)
theorem teq (rs rt rd : RegId) (sa : BitVec 5) : Statement (.teq rs rt rd sa) :=
  of_row 98 (r := ⟨"TEQ", 0xFC00003F, 0x00000034⟩) rfl rfl (encodeR_and ..)
theorem tne (rs rt rd : RegId) (sa : BitVec 5) : Statement (.tne rs rt rd sa) :=
  of_row 99 (r := ⟨"TNE", 0xFC00003F, 0x00000036⟩) rfl rfl (encodeR_and ..)
theorem dsll (rs rt rd : RegId) (sa : BitVec 5) : Statement (.dsll rs rt rd sa) :=
  of_row 100 (r := ⟨"DSLL", 0xFC00003F, 0x00000038⟩) rfl rfl (encodeR_and ..)
theorem dsrl (rs rt rd : RegId) (sa : BitVec 5) : Statement (.dsrl rs rt rd sa) :=
  of_row 101 (r := ⟨"DSRL", 0xFC00003F, 0x0000003A⟩) rfl rfl (encodeR_and ..)
theorem dsra (rs rt rd : RegId) (sa : BitVec 5) : Statement (.dsra rs rt rd sa) :=
  of_row 102 (r := ⟨"DSRA", 0xFC00003F, 0x0000003B⟩) rfl rfl (encodeR_and ..)
theorem dsll32 (rs rt rd : RegId) (sa : BitVec 5) : Statement (.dsll32 rs rt rd sa) :=
  of_row 103 (r := ⟨"DSLL32", 0xFC00003F, 0x0000003C⟩) rfl rfl (encodeR_and ..)
theorem dsrl32 (rs rt rd : RegId) (sa : BitVec 5) : Statement (.dsrl32 rs rt rd sa) :=
  of_row 104 (r := ⟨"DSRL32", 0xFC00003F, 0x0000003E⟩) rfl rfl (encodeR_and ..)
theorem dsra32 (rs rt rd : RegId) (sa : BitVec 5) : Statement (.dsra32 rs rt rd sa) :=
  of_row 105 (r := ⟨"DSRA32", 0xFC00003F, 0x0000003F⟩) rfl rfl (encodeR_and ..)
theorem bltz (rs : RegId) (imm16 : BitVec 16) : Statement (.bltz rs imm16) :=
  of_row 106 (r := ⟨"BLTZ", 0xFC1F0000, 0x04000000⟩) rfl rfl (encodeI_and_regimm ..)
theorem bgez (rs : RegId) (imm16 : BitVec 16) : Statement (.bgez rs imm16) :=
  of_row 107 (r := ⟨"BGEZ", 0xFC1F0000, 0x04010000⟩) rfl rfl (encodeI_and_regimm ..)
theorem bltzl (rs : RegId) (imm16 : BitVec 16) : Statement (.bltzl rs imm16) :=
  of_row 108 (r := ⟨"BLTZL", 0xFC1F0000, 0x04020000⟩) rfl rfl (encodeI_and_regimm ..)
theorem bgezl (rs : RegId) (imm16 : BitVec 16) : Statement (.bgezl rs imm16) :=
  of_row 109 (r := ⟨"BGEZL", 0xFC1F0000, 0x04030000⟩) rfl rfl (encodeI_and_regimm ..)
theorem tgei (rs : RegId) (imm16 : BitVec 16) : Statement (.tgei rs imm16) :=
  of_row 110 (r := ⟨"TGEI", 0xFC1F0000, 0x04080000⟩) rfl rfl (encodeI_and_regimm ..)
theorem tgeiu (rs : RegId) (imm16 : BitVec 16) : Statement (.tgeiu rs imm16) :=
  of_row 111 (r := ⟨"TGEIU", 0xFC1F0000, 0x04090000⟩) rfl rfl (encodeI_and_regimm ..)
theorem tlti (rs : RegId) (imm16 : BitVec 16) : Statement (.tlti rs imm16) :=
  of_row 112 (r := ⟨"TLTI", 0xFC1F0000, 0x040A0000⟩) rfl rfl (encodeI_and_regimm ..)
theorem tltiu (rs : RegId) (imm16 : BitVec 16) : Statement (.tltiu rs imm16) :=
  of_row 113 (r := ⟨"TLTIU", 0xFC1F0000, 0x040B0000⟩) rfl rfl (encodeI_and_regimm ..)
theorem teqi (rs : RegId) (imm16 : BitVec 16) : Statement (.teqi rs imm16) :=
  of_row 114 (r := ⟨"TEQI", 0xFC1F0000, 0x040C0000⟩) rfl rfl (encodeI_and_regimm ..)
theorem tnei (rs : RegId) (imm16 : BitVec 16) : Statement (.tnei rs imm16) :=
  of_row 115 (r := ⟨"TNEI", 0xFC1F0000, 0x040E0000⟩) rfl rfl (encodeI_and_regimm ..)
theorem bltzal (rs : RegId) (imm16 : BitVec 16) : Statement (.bltzal rs imm16) :=
  of_row 116 (r := ⟨"BLTZAL", 0xFC1F0000, 0x04100000⟩) rfl rfl (encodeI_and_regimm ..)
theorem bgezal (rs : RegId) (imm16 : BitVec 16) : Statement (.bgezal rs imm16) :=
  of_row 117 (r := ⟨"BGEZAL", 0xFC1F0000, 0x04110000⟩) rfl rfl (encodeI_and_regimm ..)
theorem bltzall (rs : RegId) (imm16 : BitVec 16) : Statement (.bltzall rs imm16) :=
  of_row 118 (r := ⟨"BLTZALL", 0xFC1F0000, 0x04120000⟩) rfl rfl (encodeI_and_regimm ..)
theorem bgezall (rs : RegId) (imm16 : BitVec 16) : Statement (.bgezall rs imm16) :=
  of_row 119 (r := ⟨"BGEZALL", 0xFC1F0000, 0x04130000⟩) rfl rfl (encodeI_and_regimm ..)
theorem mfc0 (rt rd : RegId) (low11 : BitVec 11) : Statement (.mfc0 rt rd low11) :=
  of_row 120 (r := ⟨"MFC0", 0xFFE00000, 0x40000000⟩) rfl rfl (encodeC0_and ..)
theorem dmfc0 (rt rd : RegId) (low11 : BitVec 11) : Statement (.dmfc0 rt rd low11) :=
  of_row 121 (r := ⟨"DMFC0", 0xFFE00000, 0x40200000⟩) rfl rfl (encodeC0_and ..)
theorem mtc0 (rt rd : RegId) (low11 : BitVec 11) : Statement (.mtc0 rt rd low11) :=
  of_row 122 (r := ⟨"MTC0", 0xFFE00000, 0x40800000⟩) rfl rfl (encodeC0_and ..)
theorem dmtc0 (rt rd : RegId) (low11 : BitVec 11) : Statement (.dmtc0 rt rd low11) :=
  of_row 123 (r := ⟨"DMTC0", 0xFFE00000, 0x40A00000⟩) rfl rfl (encodeC0_and ..)
theorem bc0 (rt : RegId) (imm16 : BitVec 16) : Statement (.bc0 rt imm16) :=
  of_row 124 (r := ⟨"BC0", 0xFFE00000, 0x41000000⟩) rfl rfl (encodeI_and_cop0 ..)
theorem tlbr (co : BitVec 19) : Statement (.tlbr co) :=
  of_row 125 (r := ⟨"TLBR", 0xFE00003F, 0x42000001⟩) rfl rfl (encodeCo_and ..)
theorem tlbwi (co : BitVec 19) : Statement (.tlbwi co) :=
  of_row 126 (r := ⟨"TLBWI", 0xFE00003F, 0x42000002⟩) rfl rfl (encodeCo_and ..)
theorem tlbwr (co : BitVec 19) : Statement (.tlbwr co) :=
  of_row 127 (r := ⟨"TLBWR", 0xFE00003F, 0x42000006⟩) rfl rfl (encodeCo_and ..)
theorem tlbp (co : BitVec 19) : Statement (.tlbp co) :=
  of_row 128 (r := ⟨"TLBP", 0xFE00003F, 0x42000008⟩) rfl rfl (encodeCo_and ..)
theorem eret (co : BitVec 19) : Statement (.eret co) :=
  of_row 129 (r := ⟨"ERET", 0xFE00003F, 0x42000018⟩) rfl rfl (encodeCo_and ..)

end Sys2Proof.Laws.TableRow
end

