-- ==== Sys2Proof/Laws/Values.lean ====
section
/-! SUPPORT. Laws of values: the operand forms of the meanings as integers mod 2^32 (00_scope.md R5, R6), and the conditions as
comparisons of integers. -/

namespace Sys2Proof.Machine

/-! ## Halves and extensions -/

theorem sext64_ofInt (n : Int) : sext64 (BitVec.ofInt 32 n) = signed32Result n := by
  rw [sext64, BitVec.signExtend, BitVec.toInt_ofInt]; rfl

theorem lo32_toNat (v : DWord) : (lo32 v).toNat = v.toNat % 2 ^ 32 := by simp [lo32]

theorem low_eq (v : DWord) : low v = (lo32 v).toNat := by rw [low, lo32_toNat]; rfl

theorem lowSigned_eq (v : DWord) : lowSigned v = (lo32 v).toInt := by
  rw [lowSigned, low_eq, BitVec.toInt_eq_toNat_bmod]

theorem ofInt_low (v : DWord) : BitVec.ofInt 32 (low v) = lo32 v := by rw [low_eq]; simp

theorem immSext32_eq (imm16 : BitVec 16) : immSext32 imm16 = BitVec.ofInt 32 imm16.toInt := rfl

theorem immSext64_toInt (imm16 : BitVec 16) : (immSext64 imm16).toInt = imm16.toInt := by
  rw [immSext64, BitVec.toInt_signExtend_of_le (by omega)]

theorem immZext64_eq (imm16 : BitVec 16) : immZext64 imm16 = BitVec.ofNat 64 imm16.toNat := by
  apply BitVec.eq_of_toNat_eq; simp [immZext64]

theorem zext64OfByte_eq (b : Byte) : zext64OfByte b = BitVec.ofNat 64 b.toNat := by
  apply BitVec.eq_of_toNat_eq; simp [zext64OfByte]

theorem shiftAmount_toNat (v : DWord) : (shiftAmount v).toNat = v.toNat % 32 := by simp [shiftAmount, lo32]

/-! ## Sums, shifts, products -/

theorem lo32_add (a b : DWord) : lo32 a + lo32 b = BitVec.ofInt 32 (low a + low b) := by
  rw [BitVec.ofInt_add, ofInt_low, ofInt_low]

theorem lo32_sub (a b : DWord) : lo32 a - lo32 b = BitVec.ofInt 32 (low a - low b) := by
  rw [Int.sub_eq_add_neg, BitVec.ofInt_add, BitVec.ofInt_neg, ofInt_low, ofInt_low, BitVec.sub_eq_add_neg]

theorem lo32_add_imm (a : DWord) (imm16 : BitVec 16) : lo32 a + immSext32 imm16 = BitVec.ofInt 32 (low a + imm16.toInt) := by
  rw [BitVec.ofInt_add, ofInt_low, immSext32_eq]

theorem lo32_shiftLeft (v : DWord) (k : Nat) : lo32 v <<< k = BitVec.ofInt 32 (low v * 2 ^ k) := by
  rw [BitVec.ofInt_mul, ofInt_low, BitVec.shiftLeft_eq_mul_twoPow]
  congr 1
  apply BitVec.eq_of_toNat_eq
  simp only [BitVec.toNat_twoPow, BitVec.toNat_ofInt]
  norm_cast

theorem lo32_shiftRight (v : DWord) (k : Nat) : lo32 v >>> k = BitVec.ofInt 32 (low v / 2 ^ k) := by
  apply BitVec.eq_of_toNat_eq
  have hd : ((lo32 v).toNat : Int) / 2 ^ k = (((lo32 v).toNat / 2 ^ k : Nat) : Int) := by norm_cast
  rw [low_eq, BitVec.toNat_ushiftRight, Nat.shiftRight_eq_div_pow, BitVec.toNat_ofInt, hd]
  have hle := Nat.div_le_self (lo32 v).toNat (2 ^ k)
  have hlt := (lo32 v).isLt
  generalize (lo32 v).toNat / 2 ^ k = q at *
  omega

theorem lo32_sshiftRight (v : DWord) (k : Nat) : (lo32 v).sshiftRight k = BitVec.ofInt 32 (lowSigned v / 2 ^ k) := by
  rw [lowSigned_eq, BitVec.sshiftRight, Int.shiftRight_eq_div_pow]; norm_cast

theorem product_eq (a b : DWord) : product a b = BitVec.ofInt 64 (lowSigned a * lowSigned b) := by
  rw [BitVec.ofInt_mul, lowSigned_eq, lowSigned_eq]; rfl

theorem extract_low (n : Int) : (BitVec.ofInt 64 n).extractLsb' 0 32 = BitVec.ofInt 32 n := by
  apply BitVec.eq_of_toNat_eq
  simp only [BitVec.extractLsb'_toNat, BitVec.toNat_ofInt, Nat.shiftRight_zero]
  omega

theorem extract_high (n : Int) : (BitVec.ofInt 64 n).extractLsb' 32 32 = BitVec.ofInt 32 (n / 2 ^ 32) := by
  apply BitVec.eq_of_toNat_eq
  simp only [BitVec.extractLsb'_toNat, BitVec.toNat_ofInt, Nat.shiftRight_eq_div_pow]
  omega

/-! ## Comparisons -/

theorem compareResult_less (a b : DWord) : compareResult (lessSigned a b) = if a.toInt < b.toInt then 1 else 0 := by
  simp [compareResult, lessSigned, BitVec.slt]

theorem compareResult_less_imm (a : DWord) (imm16 : BitVec 16) :
    compareResult (lessSigned a (immSext64 imm16)) = if a.toInt < imm16.toInt then 1 else 0 := by
  rw [compareResult_less, immSext64_toInt]

theorem condEq_eq (a b : DWord) : condEq a b = decide (a = b) := by simp [condEq, Bool.beq_eq_decide_eq]
theorem condNe_eq (a b : DWord) : condNe a b = decide (a ≠ b) := by simp [condNe, bne, Bool.beq_eq_decide_eq]
theorem condLez_eq (v : DWord) : condLez v = decide (v.toInt ≤ 0) := by simp [condLez, BitVec.sle]
theorem condGtz_eq (v : DWord) : condGtz v = decide (0 < v.toInt) := by simp [condGtz, BitVec.slt]
theorem condLtz_eq (v : DWord) : condLtz v = decide (v.toInt < 0) := by simp [condLtz, BitVec.slt]
theorem condGez_eq (v : DWord) : condGez v = decide (0 ≤ v.toInt) := by simp [condGez, BitVec.sle]

/-! ## Addresses -/

theorem effectiveAddress_eq (base : DWord) (imm16 : BitVec 16) :
    effectiveAddress base imm16 = BitVec.ofInt 32 (low base + imm16.toInt) := lo32_add_imm base imm16

theorem linkValue_eq (p : Word) : linkValue p = signed32Result (p.toNat + 8) := by
  rw [← sext64_ofInt, linkValue, BitVec.ofInt_add]; simp

theorem link_eq_linked (s : State) : s.link = linked s := by rw [State.link, linked, linkValue_eq]; rfl

theorem branchTarget_eq (p : Word) (imm16 : BitVec 16) : branchTarget p imm16 = branchAddress p imm16 := by
  have hs : immSext32 imm16 <<< (2 : Nat) = BitVec.ofInt 32 (imm16.toInt * 4) := by
    rw [BitVec.ofInt_mul, immSext32_eq, BitVec.shiftLeft_eq_mul_twoPow]; rfl
  rw [branchTarget, branchAddress, hs, BitVec.ofInt_add, BitVec.ofInt_add]
  simp

theorem jumpTarget_eq (p : Word) (target26 : BitVec 26) : jumpTarget p target26 = jumpAddress p target26 := by
  have hj : jumpTarget p target26 = p.extractLsb' 28 4 ++ (target26 ++ 0#2) := by
    apply BitVec.eq_of_getLsbD_eq
    intro i hi
    simp only [jumpTarget, BitVec.getLsbD_or, BitVec.getLsbD_and, BitVec.getLsbD_append, BitVec.getLsbD_extractLsb',
      BitVec.getLsbD_shiftLeft, BitVec.getLsbD_setWidth]
    interval_cases i <;> simp
  rw [hj]
  apply BitVec.eq_of_toNat_eq
  rw [toNat_append_add, toNat_append_add, jumpAddress]
  have := p.isLt
  have := target26.isLt
  simp [Nat.shiftRight_eq_div_pow]
  omega

end Sys2Proof.Machine
end

