-- ==== Sys2Proof/Tests/Slice0.lean ====
section
/-! SUPPORT. Tests: words and values worked by hand from the examples of the rules of spec/, one step each, and a witness for every
obligation that has hypotheses. Expected results are the spec's own, never the model's answers. -/

namespace Sys2Proof.Tests

open Sys2Proof.Machine

/-! ## Helpers -/

/-- The outcome is a next state that satisfies the test. -/
def nextIs (o : Outcome) (p : State → Bool) : Bool :=
  match o with
  | .next t => p t
  | _ => false

theorem exists_next {o : Outcome} {p : State → Bool} (h : nextIs o p = true) : ∃ t, o = .next t ∧ p t = true := by
  cases o with
  | next t => exact ⟨t, rfl, h⟩
  | fault f => cases h
  | refused r => cases h

/-- The state of the rules' examples, `p` = 0x1000, with `word` there and `x[1]`, `x[2]` set. -/
def at1000 (word : Word) (x1 x2 : DWord) : State :=
  State.withFetchWord (({ State.reset with pc := 0x1000 }.setX 1 x1).setX 2 x2) 32 word.toNat

/-- The same in a delay slot: the target 0x2000 is pending. -/
def inSlot (word : Word) (x1 x2 : DWord) : State := { at1000 word x1 x2 with delayPC := 0x2000 }

/-- The same with some parameters. -/
def withParams (s : State) (p : Params) : State := { s with params := p }

/-- Every word decodes as the instruction beside it. -/
def decodesAs (l : List (Word × Instr)) : Bool := l.all fun p => decide (decode p.1 = .ok p.2)

/-- Every word, met at 0x1000, halts the core with one diagnostic that names the kind, the address and the word, and nothing else
changes (60_exceptions.md R281, R284). -/
def allUnimplemented (l : List Word) : Bool := l.all fun w =>
  let s := at1000 w 5 7
  nextIs (step s) fun t => decide (t =
    { s with
      halt := true
      out := { s.out with
        portCalls := [.readWord 0x1000]
        diagnostics := [⟨.unimplementedOperation, 0x1000, some w⟩] } })

/-- The state after a step has this value in this register. -/
def xAfter (s : State) (r : RegId) (v : DWord) : Bool := nextIs (step s) fun t => decide (t.getX r = v)

/-- The state after a step has this `pc` and this `delayPC`. -/
def pcAfter (s : State) (pc delayPC : Word) : Bool := nextIs (step s) fun t => decide (t.pc = pc) && decide (t.delayPC = delayPC)

/-! ## Well-formedness: each check refuses an ill-formed instruction (43_branch_jump.md R152) -/

theorem test_wellFormed_bltzal_31 : (Instr.bltzal 31 4).wellFormed = false := by decide
theorem test_wellFormed_bgezal_31 : (Instr.bgezal 31 4).wellFormed = false := by decide
theorem test_wellFormed_bltzal_30 : (Instr.bltzal 30 4).wellFormed = true := by decide

/-! ## Decoding: a word for every constructor, from the example of its rule -/

theorem test_decode_arithmetic : decodesAs [
    (0x00221820, .add 1 2 3 0), (0x00221821, .addu 1 2 3 0), (0x00221822, .sub 1 2 3 0), (0x00221823, .subu 1 2 3 0),
    (0x2022FFFF, .addi 1 2 0xFFFF), (0x24227FFF, .addiu 1 2 0x7FFF)] = true := by decide
theorem test_decode_logic : decodesAs [
    (0x00221824, .and 1 2 3 0), (0x00221825, .or 1 2 3 0), (0x00221826, .xor 1 2 3 0), (0x3022FF00, .andi 1 2 0xFF00),
    (0x34228000, .ori 1 2 0x8000), (0x3822FFFF, .xori 1 2 0xFFFF), (0x00221827, .nor 1 2 3 0), (0x3C021234, .lui 0 2 0x1234)] = true := by decide
theorem test_decode_shift : decodesAs [
    (0x00021900, .sll 0 2 3 4), (0x00021902, .srl 0 2 3 4), (0x00021903, .sra 0 2 3 4), (0x00221804, .sllv 1 2 3 0),
    (0x00221806, .srlv 1 2 3 0), (0x00221807, .srav 1 2 3 0)] = true := by decide
theorem test_decode_compare : decodesAs [
    (0x0022182A, .slt 1 2 3 0), (0x0022182B, .sltu 1 2 3 0), (0x2822FFFF, .slti 1 2 0xFFFF), (0x2C220001, .sltiu 1 2 1)] = true := by decide
theorem test_decode_multiply : decodesAs [
    (0x00220018, .mult 1 2 0 0), (0x00220019, .multu 1 2 0 0), (0x00001810, .mfhi 0 0 3 0), (0x00001812, .mflo 0 0 3 0),
    (0x00200011, .mthi 1 0 0 0), (0x00200013, .mtlo 1 0 0 0), (0x0022001A, .div 1 2 0 0), (0x0022001B, .divu 1 2 0 0)] = true := by decide
theorem test_decode_jump : decodesAs [
    (0x08000400, .j 0x400), (0x0C000808, .jal 0x808), (0x03E00008, .jr 31 0 0 0), (0x0040F809, .jalr 2 0 31 0)] = true := by decide
theorem test_decode_branch : decodesAs [
    (0x10220003, .beq 1 2 3), (0x1422FFFE, .bne 1 2 0xFFFE), (0x18200003, .blez 1 0 3), (0x1C200003, .bgtz 1 0 3),
    (0x04200003, .bltz 1 3), (0x04210003, .bgez 1 3), (0x04300003, .bltzal 1 3), (0x04310003, .bgezal 1 3),
    (0x04320003, .bltzall 1 3), (0x04330003, .bgezall 1 3)] = true := by decide
theorem test_decode_likely : decodesAs [
    (0x50220003, .beql 1 2 3), (0x54220003, .bnel 1 2 3), (0x58200003, .blezl 1 0 3), (0x5C200003, .bgtzl 1 0 3),
    (0x04220003, .bltzl 1 3), (0x04230003, .bgezl 1 3)] = true := by decide
theorem test_decode_memory : decodesAs [
    (0x80220008, .lb 1 2 8), (0x90220008, .lbu 1 2 8), (0x8C22FFFC, .lw 1 2 0xFFFC), (0xA0220008, .sb 1 2 8),
    (0xAC220008, .sw 1 2 8), (0xBC340000, .cache 1 20 0)] = true := by decide
theorem test_decode_partial : decodesAs [
    (0x84220008, .lh 1 2 8), (0x94220008, .lhu 1 2 8), (0x9C220008, .lwu 1 2 8), (0xA4220008, .sh 1 2 8),
    (0x88220008, .lwl 1 2 8), (0x98220008, .lwr 1 2 8), (0xA8220008, .swl 1 2 8), (0xB8220008, .swr 1 2 8),
    (0xDC220008, .ld 1 2 8), (0xFC220008, .sd 1 2 8), (0x68220008, .ldl 1 2 8), (0x6C220008, .ldr 1 2 8),
    (0xB0220008, .sdl 1 2 8), (0xB4220008, .sdr 1 2 8), (0xC0220008, .ll 1 2 8), (0xE0220008, .sc 1 2 8)] = true := by decide
theorem test_decode_coprocessorMemory : decodesAs [
    (0xD0220008, .lld 1 2 8), (0xF0220008, .scd 1 2 8), (0xC4220008, .lwc1 1 2 8), (0xE4220008, .swc1 1 2 8),
    (0xD4220008, .ldc1 1 2 8), (0xF4220008, .sdc1 1 2 8), (0xC8220008, .lwc2 1 2 8), (0xD8220008, .ldc2 1 2 8),
    (0xE8220008, .swc2 1 2 8), (0xF8220008, .sdc2 1 2 8)] = true := by decide
theorem test_decode_coprocessor0 : decodesAs [
    (0x40026000, .mfc0 2 12 0), (0x40826000, .mtc0 2 12 0), (0x40226000, .dmfc0 2 12 0), (0x40A26000, .dmtc0 2 12 0),
    (0x41000003, .bc0 0 3), (0x42000001, .tlbr 0), (0x42000002, .tlbwi 0), (0x42000006, .tlbwr 0),
    (0x42000008, .tlbp 0), (0x42000018, .eret 0)] = true := by decide
theorem test_decode_system : decodesAs [
    (0x0000000C, .syscall 0), (0x0000000D, .brk 0), (0x0000000F, .sync 0), (0x00220030, .tge 1 2 0 0),
    (0x00220031, .tgeu 1 2 0 0), (0x00220032, .tlt 1 2 0 0), (0x00220033, .tltu 1 2 0 0), (0x00220034, .teq 1 2 0 0),
    (0x00220036, .tne 1 2 0 0), (0x04280001, .tgei 1 1), (0x04290001, .tgeiu 1 1), (0x042A0001, .tlti 1 1),
    (0x042B0001, .tltiu 1 1), (0x042C0001, .teqi 1 1), (0x042E0001, .tnei 1 1)] = true := by decide
theorem test_decode_doubleword : decodesAs [
    (0x0022182C, .dadd 1 2 3 0), (0x0022182D, .daddu 1 2 3 0), (0x0022182E, .dsub 1 2 3 0), (0x0022182F, .dsubu 1 2 3 0),
    (0x60220001, .daddi 1 2 1), (0x64220001, .daddiu 1 2 1), (0x00021938, .dsll 0 2 3 4), (0x0002193A, .dsrl 0 2 3 4),
    (0x0002193B, .dsra 0 2 3 4), (0x00221814, .dsllv 1 2 3 0), (0x00221816, .dsrlv 1 2 3 0), (0x00221817, .dsrav 1 2 3 0),
    (0x0002193C, .dsll32 0 2 3 4), (0x0002193E, .dsrl32 0 2 3 4), (0x0002193F, .dsra32 0 2 3 4), (0x0022001C, .dmult 1 2 0 0),
    (0x0022001D, .dmultu 1 2 0 0), (0x0022001E, .ddiv 1 2 0 0), (0x0022001F, .ddivu 1 2 0 0), (0x46000000, .cop1 0x2000000),
    (0x48000000, .cop2 0)] = true := by decide

/-- Ignored fields are kept (30_encoding.md R73): `ADD` with `sa` = 31, `MFC0` with bits 10:0 set, `TLBR` with bits 24:6 set. -/
theorem test_decode_ignored_fields : decodesAs [(0x00221FE0, .add 1 2 3 31), (0x400267FF, .mfc0 2 12 0x7FF),
    (0x43FFFFC1, .tlbr 0x7FFFF), (0x03FFFFCC, .syscall 0xFFFFF)] = true := by decide

theorem test_decode_reserved : decode 0x0022180A = .error (.reservedSpecial 10) ∧ decode 0x04040000 = .error (.reservedRegimm 4) ∧
    decode 0x4C000000 = .error (.reservedPrimary 19) ∧ decode 0x42000000 = .error (.reservedCop0 16 0) ∧
    decode 0x40400000 = .error (.reservedCop0 2 0) := by decide

theorem test_decode_truncated : decodeBytes [0x00, 0x22, 0x18] = .error (.truncated 3) := by decide

theorem test_decodeBytes_big_endian : decodeBytes [0x20, 0x22, 0xFF, 0xFF, 0x01] = .ok (.addi 1 2 0xFFFF, [0x01]) := by decide

theorem test_decodeTableWord : decodeTableWord 32 0x2022FFFF = some (.addi 1 2 0xFFFF) ∧ decodeTableWord 32 0x00000001 = none := by
  decide

/-! ## Arithmetic, logic, shifts, comparisons (41_alu.md, the examples of R111 to R132) -/

theorem test_add : xAfter (at1000 0x00221820 0x7FFFFFFF 1) 3 0xFFFFFFFF80000000 = true := by decide
theorem test_sub : xAfter (at1000 0x00221822 0x80000000 1) 3 0x7FFFFFFF = true := by decide
theorem test_subu : xAfter (at1000 0x00221823 0 1) 3 0xFFFFFFFFFFFFFFFF = true := by decide
theorem test_addi : xAfter (at1000 0x2022FFFF 0 0) 2 0xFFFFFFFFFFFFFFFF = true := by decide
theorem test_addiu : xAfter (at1000 0x24227FFF 0x7FFF8001 0) 2 0xFFFFFFFF80000000 = true := by decide
theorem test_and : xAfter (at1000 0x00221824 0xFFFFFFFFF0F0F0F0 0x0FF00FF0) 3 0x00F000F0 = true := by decide
theorem test_or : xAfter (at1000 0x00221825 0xFFFFFFFF80000000 1) 3 0xFFFFFFFF80000001 = true := by decide
theorem test_xor : xAfter (at1000 0x00221826 0xFFFFFFFFFFFFFFFF 0xFFFF) 3 0xFFFFFFFFFFFF0000 = true := by decide
theorem test_andi : xAfter (at1000 0x3022FF00 0xFFFFFFFFFFFF1234 0) 2 0x1200 = true := by decide
theorem test_ori : xAfter (at1000 0x34228000 0 0) 2 0x8000 = true := by decide
theorem test_xori : xAfter (at1000 0x3822FFFF 0xFFFFFFFFFFFFFFFF 0) 2 0xFFFFFFFFFFFF0000 = true := by decide
theorem test_sll : xAfter (at1000 0x00021900 0 0x08000001) 3 0xFFFFFFFF80000010 = true := by decide
theorem test_srl : xAfter (at1000 0x00021902 0 0xFFFFFFFF80000010) 3 0x08000001 = true := by decide
theorem test_sra : xAfter (at1000 0x00021903 0 0xFFFFFFFF80000010) 3 0xFFFFFFFFF8000001 = true := by decide
theorem test_sllv : xAfter (at1000 0x00221804 0x24 1) 3 0x10 = true := by decide
theorem test_srlv : xAfter (at1000 0x00221806 0x1F 0xFFFFFFFF80000000) 3 1 = true := by decide
theorem test_srav : xAfter (at1000 0x00221807 0x1F 0xFFFFFFFF80000000) 3 0xFFFFFFFFFFFFFFFF = true := by decide
theorem test_slt : xAfter (at1000 0x0022182A 0xFFFFFFFFFFFFFFFF 1) 3 1 = true := by decide
theorem test_sltu : xAfter (at1000 0x0022182B 0xFFFFFFFFFFFFFFFF 1) 3 1 = true := by decide
theorem test_slti : xAfter (at1000 0x2822FFFF 0xFFFFFFFFFFFFFFFE 0) 2 1 = true := by decide
theorem test_sltiu : xAfter (at1000 0x2C220001 0xFFFFFFFFFFFFFFFF 0) 2 1 = true := by decide
/-- R112 by R110: 0xFFFFFFFF + 2 wraps to 1. -/
theorem test_addu : xAfter (at1000 0x00221821 0xFFFFFFFF 2) 3 1 = true := by decide
/-- GPR 0 keeps what is written to it (10_state.md R12): `ADDI $0, $1, -1`. -/
theorem test_addi_to_register_zero : xAfter (at1000 0x2020FFFF 0 0) 0 0xFFFFFFFFFFFFFFFF = true := by decide
/-- A source that is also the destination (R123): `SLL $2, $2, 4`. -/
theorem test_sll_in_place : xAfter (at1000 0x00021100 0 0x08000001) 2 0xFFFFFFFF80000010 = true := by decide

/-! ## HI and LO (42_muldiv_hilo.md, the examples of R141 to R144) -/

/-- The accumulators after a step. -/
def hiloAfter (s : State) (hi lo : DWord) : Bool := nextIs (step s) fun t => decide (t.hi = hi) && decide (t.lo = lo)

/-- (-1) * 2, signed, for both (R142: an unsigned multiply would give HI = 1). -/
theorem test_mult : hiloAfter (at1000 0x00220018 0xFFFFFFFF 2) 0xFFFFFFFFFFFFFFFF 0xFFFFFFFFFFFFFFFE = true := by decide
theorem test_multu : hiloAfter (at1000 0x00220019 0xFFFFFFFF 2) 0xFFFFFFFFFFFFFFFF 0xFFFFFFFFFFFFFFFE = true := by decide
/-- (-2^31) * (-2^31) = 2^62. -/
theorem test_mult_extreme : hiloAfter (at1000 0x00220018 0x80000000 0x80000000) 0x40000000 0 = true := by decide
theorem test_mfhi : xAfter ((at1000 0x00001810 0 0).setHiLo 0xFFFFFFFFFFFFFFFF 0x2A) 3 0xFFFFFFFFFFFFFFFF = true := by decide
theorem test_mflo : xAfter ((at1000 0x00001812 0 0).setHiLo 0xFFFFFFFFFFFFFFFF 0x2A) 3 0x2A = true := by decide

/-! ## Jumps and branches (43_branch_jump.md, the examples of R153 to R169) -/

theorem test_j : pcAfter (at1000 0x08000400 0 0) 0x1004 0x1000 = true := by decide
theorem test_jal : (pcAfter (at1000 0x0C000808 0 0) 0x1004 0x2020 && xAfter (at1000 0x0C000808 0 0) 31 0x1008) = true := by decide
theorem test_jr : pcAfter ((at1000 0x03E00008 0 0).setX 31 0x200C) 0x1004 0x200C = true := by decide
theorem test_beq : (pcAfter (at1000 0x10220003 5 5) 0x1004 0x1010 && pcAfter (at1000 0x10220003 5 6) 0x1004 0) = true := by decide
theorem test_bne : pcAfter (at1000 0x1422FFFE 5 6) 0x1004 0x0FFC = true := by decide
theorem test_blez : pcAfter (at1000 0x18200003 0 0) 0x1004 0x1010 = true := by decide
theorem test_bgtz : pcAfter (at1000 0x1C200003 1 0) 0x1004 0x1010 = true := by decide
theorem test_bltz : pcAfter (at1000 0x04200003 0xFFFFFFFFFFFFFFFF 0) 0x1004 0x1010 = true := by decide
theorem test_bgez : pcAfter (at1000 0x04210003 0 0) 0x1004 0x1010 = true := by decide
theorem test_bltzal : (pcAfter (at1000 0x04300003 0 0) 0x1004 0 && xAfter (at1000 0x04300003 0 0) 31 0x1008) = true := by decide
theorem test_bgezal : (pcAfter (at1000 0x04310003 0 0) 0x1004 0x1010 && xAfter (at1000 0x04310003 0 0) 31 0x1008) = true := by decide
/-- R164, as the test of 40_step_and_dispatch.md R106. -/
theorem test_beql : pcAfter (at1000 0x50220003 5 6) 0x1008 0 = true := by decide
theorem test_bnel : pcAfter (at1000 0x54220003 5 5) 0x1008 0 = true := by decide
theorem test_blezl : pcAfter (at1000 0x58200003 1 0) 0x1008 0 = true := by decide
theorem test_bgtzl : pcAfter (at1000 0x5C200003 0 0) 0x1008 0 = true := by decide
theorem test_bltzl : pcAfter (at1000 0x04220003 0xFFFFFFFFFFFFFFFF 0) 0x1004 0x1010 = true := by decide
theorem test_bgezl : pcAfter (at1000 0x04230003 0xFFFFFFFFFFFFFFFF 0) 0x1008 0 = true := by decide
/-- R95: the second step, the slot (a `SLL $0, $0, 0`), goes to the target. -/
theorem test_slot_applies_target : pcAfter (inSlot 0 0 0) 0x2000 0 = true := by decide
/-- R98: a branch not taken in a slot is specified. -/
theorem test_slot_branch_not_taken : pcAfter (inSlot 0x10220003 5 6) 0x2000 0 = true := by decide
/-- R97: `J 0` at 0x1000 is lost. -/
theorem test_target_zero_is_lost : pcAfter (at1000 0x08000000 0 0) 0x1004 0 = true := by decide

/-! ## Memory (44_load_store.md, the examples of R181 to R186) -/

/-- The same state with the bytes of the examples of R181 to R183. -/
def withByte (s : State) (a : Nat) (b : Byte) : State := s.setMem (s.mem.write a b)

theorem test_lb : xAfter (withByte (at1000 0x80220008 0x100 0) 0x108 0xFF) 2 0xFF = true := by decide
theorem test_lbu : xAfter (withByte (at1000 0x90220008 0x100 0) 0x108 0xAC) 2 0xAC = true := by decide
theorem test_lw : xAfter (withByte (withByte (at1000 0x8C22FFFC 0x104 0) 0x100 0x80) 0x103 0x01) 2 0xFFFFFFFF80000001 = true := by decide
theorem test_sb : nextIs (step (at1000 0xA0220008 0x100 0x123400AC)) (fun t => decide (t.mem.read 0x108 = 0xAC)) = true := by decide
theorem test_sw : nextIs (step (at1000 0xAC220008 0x100 0xFFFFFFFF80000001)) (fun t => decide ([0x108, 0x109, 0x10A, 0x10B].map t.mem.read = [0x80, 0, 0, 1])) = true := by decide
/-- R186: nothing but `pc` and `opsExecuted` changes (and the record of the fetch). -/
theorem test_cache : nextIs (step (at1000 0xBC340000 5 7)) (fun t => decide (t = ((at1000 0xBC340000 5 7).called (.readWord 0x1000)).advanced)) = true := by decide
/-- 20_memory.md R43: a misaligned word access faults by default; the destination keeps its value. -/
theorem test_lw_misaligned : nextIs (step (at1000 0x8C22FFFC 0x105 9)) (fun t => decide (t.out.diagnostics = [⟨.memoryFault 0x101, 0x1000, some 0x8C22FFFC⟩]) && decide (t.getX 2 = 9) && decide (t.pc = 0x1000)) = true := by decide
/-- 60_exceptions.md R283: a fault on the fetch has no word to report. -/
theorem test_fetch_misaligned : nextIs (step { State.reset with pc := 0x1002 }) (fun t => decide (t.out.diagnostics = [⟨.memoryFault 0x1002, 0x1002, none⟩]) && t.halt) = true := by decide

/-! ## Coprocessor 0 (45_cop0_system.md, the examples of R221, R222) -/

/-- `COP0_WRITABLE` = the register 12 alone. -/
def status12 : Params := { Params.default with cop0Writable := [12] }

theorem test_mfc0 : xAfter ((at1000 0x40026000 0 0).setC0 12 0x80000001) 2 0xFFFFFFFF80000001 = true := by decide
theorem test_mtc0 : nextIs (step (withParams (at1000 0x40826000 0 0xFFFFFFFF80000001) status12)) (fun t => decide (t.getC0 12 = 0x80000001)) = true := by decide
theorem test_mtc0_not_writable : allUnimplemented [0x40826000] = true := by decide

/-! ## Every other row raises UnimplementedOperation and changes nothing else (the example of its rule) -/

theorem test_unimplemented_alu_branch : allUnimplemented [
    0x00221827, 0x3C021234, 0x00200011, 0x00200013, 0x0022001A, 0x0022001B, 0x0040F809, 0x04320003,
    0x04330003] = true := by decide
theorem test_unimplemented_memory : allUnimplemented [
    0x84220008, 0x94220008, 0x9C220008, 0xA4220008, 0x88220008, 0x98220008, 0xA8220008, 0xB8220008,
    0xDC220008, 0xFC220008, 0x68220008, 0x6C220008, 0xB0220008, 0xB4220008, 0xC0220008, 0xE0220008] = true := by decide
theorem test_unimplemented_coprocessorMemory : allUnimplemented [
    0xD0220008, 0xF0220008, 0xC4220008, 0xE4220008, 0xD4220008, 0xF4220008, 0xC8220008, 0xD8220008,
    0xE8220008, 0xF8220008] = true := by decide
theorem test_unimplemented_coprocessor0 : allUnimplemented [
    0x40226000, 0x40A26000, 0x41000003, 0x42000001, 0x42000002, 0x42000006, 0x42000008, 0x42000018,
    0x42000000] = true := by decide
theorem test_unimplemented_system : allUnimplemented [
    0x0000000C, 0x0000000D, 0x0000000F, 0x00220030, 0x00220031, 0x00220032, 0x00220033, 0x00220034,
    0x00220036, 0x04280001, 0x04290001, 0x042A0001, 0x042B0001, 0x042C0001, 0x042E0001] = true := by decide
theorem test_unimplemented_doubleword_1 : allUnimplemented [
    0x0022182C, 0x0022182D, 0x0022182E, 0x0022182F, 0x60220001, 0x64220001, 0x00021938, 0x0002193A,
    0x0002193B, 0x00221814] = true := by decide
theorem test_unimplemented_doubleword_2 : allUnimplemented [
    0x00221816, 0x00221817, 0x0002193C, 0x0002193E, 0x0002193F, 0x0022001C, 0x0022001D, 0x0022001E,
    0x0022001F, 0x46000000, 0x48000000] = true := by decide
theorem test_unimplemented_reserved : allUnimplemented [
    0x00000001, 0x0022180A, 0x04040000, 0x4C000000, 0x70000000, 0x74000000, 0x78000000, 0x7C000000,
    0xCC000000, 0xEC000000] = true := by decide

/-! ## Witnesses: concrete states and operands that meet all hypotheses of an obligation together, clause by clause -/

/-- Everything from 0x80000000 on is an invalid target. -/
def upperInvalid : Params := { Params.default with invalidTargets := [⟨0x80000000, 0xFFFFFFFF⟩] }

/-- `MISALIGNED_WORD` = compose. -/
def composing : Params := { Params.default with misaligned := .compose }

/-- The state at creation behind a collaborator that answers its next call so. -/
def answering (a : PortAnswer) : State := { State.reset with answers := [a] }

/-- A core in the upper half: `J` there has an invalid target under `upperInvalid`. -/
def atUpper (word : Word) (x1 x2 : DWord) : State :=
  withParams (State.withFetchWord (({ State.reset with pc := 0x80000000 }.setX 1 x1).setX 2 x2) 32 word.toNat) upperInvalid

/-- Witness of EncodeOfDecode. -/
theorem witness_encodeOfDecode : decode 0x400267FF = .ok (.mfc0 2 12 0x7FF) := by decide

/-- Witness of DecodeFollowsOpcodeTable, the first and the last row, and of its second clause. -/
theorem witness_decodeFollowsOpcodeTable :
    (∃ r ∈ opcodeTable, r.mnemonic = "J" ∧ r.selects 0x08000400 = true) ∧
    (∃ r ∈ opcodeTable, r.mnemonic = "ERET" ∧ r.selects 0x43FFFFD8 = true) ∧ decode 0x43FFFFD8 = .ok (.eret 0x7FFFF) :=
  ⟨⟨⟨"J", 0xFC000000, 0x08000000⟩, List.mem_of_getElem? (i := 0) rfl, rfl, by decide⟩,
    ⟨⟨"ERET", 0xFE00003F, 0x42000018⟩, List.mem_of_getElem? (i := 129) rfl, rfl, by decide⟩, by decide⟩

/-- Witnesses of ReservedWordRaisesUnimplemented, one for each of its five cases, at their ends. -/
theorem witness_reserved_fetches :
    (at1000 0x4C000000 0 0).halt = false ∧ (at1000 0x4C000000 0 0).fetches 0x4C000000 ∧
    (at1000 0x0000003D 0 0).fetches 0x0000003D ∧ (at1000 0x041F0000 0 0).fetches 0x041F0000 ∧
    (at1000 0x41E00000 0 0).fetches 0x41E00000 ∧ (at1000 0x42000000 0 0).fetches 0x42000000 ∧
    (at1000 0x43FFFFFF 0 0).fetches 0x43FFFFFF := by
  unfold State.fetches; decide
theorem witness_reserved_words :
    (opcodeOf 0x4C000000).toNat = 19 ∧ (opcodeOf 0x0000003D = 0 ∧ (functOf 0x0000003D).toNat = 61) ∧
    (opcodeOf 0x041F0000 = 1 ∧ (rtOf 0x041F0000).toNat = 31) ∧ (opcodeOf 0x41E00000 = 16 ∧ (rsOf 0x41E00000).toNat = 15) ∧
    (opcodeOf 0x42000000 = 16 ∧ (rsOf 0x42000000).toNat = 16 ∧ (functOf 0x42000000).toNat = 0) ∧
    (opcodeOf 0x43FFFFFF = 16 ∧ (rsOf 0x43FFFFFF).toNat = 31 ∧ (functOf 0x43FFFFFF).toNat = 63) := by decide

/-- Witness of StepRunsDecodedInstruction. -/
theorem witness_stepRunsDecodedInstruction :
    (at1000 0x00221820 1 2).halt = false ∧ (at1000 0x00221820 1 2).fetches 0x00221820 ∧ decode 0x00221820 = .ok (.add 1 2 3 0) := by
  unfold State.fetches; decide

/-- Witnesses of FetchIsOneReadWord: a misaligned `pc`, an aligned one at each end of the address space, a collaborator that
faults an aligned fetch. -/
theorem witness_fetchIsOneReadWord :
    State.reset.halt = false ∧ State.reset.faults (.readWord 0) = false ∧ ({ State.reset with pc := 0xFFFFFFFC }).halt = false ∧
    State.reset.faults (.readWord 0xFFFFFFFC) = false ∧ State.reset.faults (.readWord 0x1002) = true ∧
    State.reset.faults (.readWord 0xFFFFFFFF) = true ∧ (answering .fault).halt = false ∧
    (answering .fault).faults (.readWord 0) = true := by decide

/-- Witnesses of PcFollowsDelaySlotRule: a slot, an annulling likely branch, an advance, a transfer. -/
theorem witness_pcFollowsDelaySlotRule :
    (∃ t, step (inSlot 0 0 0) = .next t ∧ (decide (t.halt = false) && decide ((inSlot 0 0 0).delayPC ≠ 0)) = true) ∧
    (∃ t, step (at1000 0x50220003 5 6) = .next t ∧ (decide (t.halt = false) && decide ((at1000 0x50220003 5 6).delayPC = 0)) = true) ∧
    annulsSlot (.beql 1 2 3) (at1000 0x50220003 5 6) ∧
    (∃ t, step (at1000 0x10220003 5 6) = .next t ∧ (decide (t.halt = false)) = true) ∧ ¬ annulsSlot (.beq 1 2 3) (at1000 0x10220003 5 6) := by
  refine ⟨exists_next (by decide), exists_next (by decide), ?_, exists_next (by decide), fun h => h⟩
  show (at1000 0x50220003 5 6).getX 1 ≠ (at1000 0x50220003 5 6).getX 2
  decide

/-- Witnesses of CounterCountsRetiredSteps: a step that retires and one that faults. -/
theorem witness_counterCountsRetiredSteps :
    (∃ t, step (at1000 0x00221820 1 2) = .next t ∧ (decide (t.halt = false)) = true) ∧
    (∃ t, step (at1000 0x00221827 1 2) = .next t ∧ t.halt = true) :=
  ⟨exists_next (by decide), exists_next (by decide)⟩

/-- Witnesses of FaultIsPrecise: a fault on the fetch, one of a handler, one after a link write. -/
theorem witness_faultIsPrecise :
    (∃ t, step { State.reset with pc := 0x1002 } = .next t ∧ t.halt = true) ∧
    (∃ t, step (at1000 0x00221827 1 2) = .next t ∧ t.halt = true) ∧
    (∃ t, step (atUpper 0x0C000808 1 2) = .next t ∧ (t.halt && decide (t.getX 31 = 0xFFFFFFFF80000008)) = true) :=
  ⟨exists_next (by decide), exists_next (by decide), exists_next (by decide)⟩

/-- Witnesses of PortCallsPerStep: no second call, a second call, no second call after a fault on the fetch. -/
theorem witness_portCallsPerStep :
    secondCall (at1000 0x00221820 1 2) = none ∧ secondCall (at1000 0x8C22FFFC 0x104 0) = some (.readWord 0x100) ∧
    secondCall { State.reset with pc := 0x1002 } = none ∧
    (∃ t, step (at1000 0x8C22FFFC 0x104 0) = .next t ∧ decide (t.out.portCalls = [.readWord 0x100, .readWord 0x1000]) = true) :=
  ⟨by decide, by decide, by decide, exists_next (by decide)⟩

theorem reset_canonical : State.reset.canonical :=
  ⟨fun r => by rw [reset_getX]; unfold canonicalValue; decide, by unfold canonicalValue; decide, by unfold canonicalValue; decide⟩

/-- Witness of StepKeepsCanonicalRegisters: `ADDI $1, $0, -1` from the state at creation. -/
theorem witness_stepKeepsCanonicalRegisters :
    (State.reset.withFetchWord 32 0x2001FFFF).canonical ∧
    ∃ t, step (State.reset.withFetchWord 32 0x2001FFFF) = .next t ∧ decide (t.getX 1 = 0xFFFFFFFFFFFFFFFF) = true :=
  ⟨reset_canonical, exists_next (by decide)⟩

/-- Witnesses of StepKeepsMemoryCanonical: a store, and each of the five moves of the host. -/
theorem witness_stepKeepsMemoryCanonical :
    (at1000 0xAC220008 0x100 0x123400AC).memoryCanonical ∧
    (∃ t, step (at1000 0xAC220008 0x100 0x123400AC) = .next t ∧ decide (t.mem.read 0x10B = 0xAC) = true) ∧
    (∃ t, hostMove .step (at1000 0xAC220008 0x100 0) = .next t ∧ decide (t.opsExecuted = 1) = true) ∧
    (∃ t, hostMove (.run 2 (some 1)) (at1000 0xAC220008 0x100 0) = .next t ∧ decide (t.opsExecuted = 1) = true) ∧
    (∃ t, hostMove .reset (at1000 0xAC220008 0x100 0) = .next t ∧ decide (t.pc = 0) = true) ∧
    (∃ t, hostMove .requestHalt (at1000 0xAC220008 0x100 0) = .next t ∧ t.halt = true) ∧
    (∃ t, hostMove (.changeMemory [(0x10B, 7)]) (at1000 0xAC220008 0x100 0) = .next t ∧
      decide (t.mem.read 0x10B = 7) = true) :=
  ⟨rfl, exists_next (by decide), exists_next (by decide), exists_next (by decide), exists_next (by decide),
    exists_next (by decide), exists_next (by decide)⟩

/-- Witnesses of ParametersNeverChange: parameters that are not the defaults, a step and a move. -/
theorem witness_parametersNeverChange :
    (∃ t, step (atUpper 0x00221820 1 2) = .next t ∧ decide (t.params = upperInvalid) = true) ∧
    (∃ t, hostMove .step (atUpper 0x00221820 1 2) = .next t ∧ decide (t.params = upperInvalid) = true) :=
  ⟨exists_next (by decide), exists_next (by decide)⟩

/-- Witness of OutputsHaltCounterNotRead: two states that differ in all three. -/
theorem witness_outputsHaltCounterNotRead :
    SameButOutputs State.reset { State.reset with halt := true, opsExecuted := 7, out := ⟨[], [.readWord 0], 3⟩ } := rfl

/-- Witnesses of ControlRegistersReadOnlyByMfc0: two states that differ in a control register, an instruction that is not `MFC0`. -/
theorem witness_controlRegistersReadOnlyByMfc0 :
    SameButControl State.reset (State.reset.setC0 12 1) ∧ State.reset ≠ State.reset.setC0 12 1 ∧
    ∀ rt rd low11, (Instr.mtc0 2 12 0) ≠ .mfc0 rt rd low11 :=
  ⟨rfl, by decide, fun _ _ _ h => nomatch h⟩

/-- Witnesses of GprZeroKeepsWhatIsWritten, second clause: a step that writes GPR 0 and one that does not. -/
theorem witness_gprZeroKeepsWhatIsWritten :
    (at1000 0x2020FFFF 0 0).getX 0 = 0 ∧ (∃ t, step (at1000 0x2020FFFF 0 0) = .next t ∧ decide (t.getX 0 ≠ 0) = true) ∧
    (∃ t, step (at1000 0x00221820 1 2) = .next t ∧ decide (t.getX 0 = 0) = true) :=
  ⟨by decide, exists_next (by decide), exists_next (by decide)⟩

/-- Witness of RunIsStepsThenRefresh, first clause, and of its second at n = 0 and n = 2. -/
theorem witness_runIsStepsThenRefresh :
    State.reset.requestHalt.halt = true ∧
    (∃ t, hostRun 0 none (at1000 0 0 0).requestHalt = .next t ∧ (decide (t.opsExecuted = 0) && decide (t.halt = false)) = true) ∧
    (∃ t, hostRun 2 none (at1000 0 0 0).requestHalt = .next t ∧ (decide (t.opsExecuted = 2) && decide (t.pc = 0x1008)) = true) :=
  ⟨rfl, exists_next (by decide), exists_next (by decide)⟩

/-- Witness of OneRefreshPerTransaction: a run that ends by a fault, one by a request, one by its budget. -/
theorem witness_oneRefreshPerTransaction :
    (∃ t, hostRun 5 none (at1000 0x00221827 0 0) = .next t ∧ (t.halt && decide (t.out.refreshPulses = 1)) = true) ∧
    (∃ t, hostRun 5 (some 1) (at1000 0 0 0) = .next t ∧ (t.halt && decide (t.out.refreshPulses = 1)) = true) ∧
    (∃ t, hostRun 1 none (at1000 0 0 0) = .next t ∧ decide (t.out.refreshPulses = 1) = true) :=
  ⟨exists_next (by decide), exists_next (by decide), exists_next (by decide)⟩

/-- The clauses of HaltRequestStopsAtBoundary where they meet: k = n and k = n + 1 (40_step_and_dispatch.md R104). -/
theorem witness_haltRequestStopsAtBoundary :
    (∃ t, runLoop 2 (some 2) (at1000 0 0 0) = .next t ∧ (t.halt && decide (t.opsExecuted = 2)) = true) ∧
    (∃ t, runLoop 2 (some 3) (at1000 0 0 0) = .next t ∧ (!t.halt && decide (t.opsExecuted = 2)) = true) :=
  ⟨exists_next (by decide), exists_next (by decide)⟩

/-- Witnesses of every `Selects` clause of the family statements: a word that each kind of mask matches. -/
theorem witness_selects :
    (0x2022FFFF : Word) &&& 0xFC000000 = 0x20000000 ∧ (0x00221FE0 : Word) &&& 0xFC00003F = 0x00000020 ∧
    (0x04230003 : Word) &&& 0xFC1F0000 = 0x04030000 ∧ (0x400267FF : Word) &&& 0xFFE00000 = 0x40000000 ∧
    (0x43FFFFD8 : Word) &&& 0xFE00003F = 0x42000018 := by decide

/-- Witnesses of JumpsScheduleRegionTarget and JumpRegisterSchedulesLowHalf: a valid and an invalid target, at the two sides of
the bound. -/
theorem witness_jumpsSchedule :
    (at1000 0x08000400 0 0).delayPC = 0 ∧ Params.invalidTarget (at1000 0x08000400 0 0).params (jumpAddress 0x1000 0x400) = false ∧
    (atUpper 0x08000000 0 0).delayPC = 0 ∧ Params.invalidTarget (atUpper 0x08000000 0 0).params (jumpAddress 0x80000000 0) = true ∧
    Params.invalidTarget upperInvalid (BitVec.ofInt 32 (low 0x7FFFFFFF)) = false ∧
    Params.invalidTarget upperInvalid (BitVec.ofInt 32 (low 0xFFFFFFFF80000000)) = true := by decide

/-- Witnesses of the branch statements: each condition true and false at its bound, targets valid and invalid. -/
theorem witness_branchConditions :
    ((at1000 0 5 5).getX 1 = (at1000 0 5 5).getX 2 ∧ (at1000 0 5 6).getX 1 ≠ (at1000 0 5 6).getX 2) ∧
    (((at1000 0 0 0).getX 1).toInt ≤ 0 ∧ 0 ≤ ((at1000 0 0 0).getX 1).toInt) ∧ 0 < ((at1000 0 1 0).getX 1).toInt ∧
    ((at1000 0 0xFFFFFFFFFFFFFFFF 0).getX 1).toInt < 0 ∧ (at1000 0 5 6).delayPC = 0 ∧
    Params.invalidTarget (at1000 0 5 5).params (branchAddress 0x1000 3) = false ∧
    Params.invalidTarget (atUpper 0 5 5).params (branchAddress 0x80000000 3) = true ∧
    Params.invalidTarget (atUpper 0 5 5).params (branchAddress 0x80000000 0xFFFE) = false := by decide

/-- Witnesses of LinkBranchesWriteLinkAlways: `rs` = 30, next to the case it leaves to RefusedSituations. -/
theorem witness_linkBranches :
    (30 : RegId) ≠ 31 ∧ 0 ≤ ((at1000 0x07D10003 0 0).getX 30).toInt ∧ (at1000 0x07D10003 0 0).delayPC = 0 := by decide

/-- Witnesses of RefusedSituations: a pending target, each condition true. -/
theorem witness_refusedSituations :
    (inSlot 0 0 0).delayPC ≠ 0 ∧ (inSlot 0 5 5).getX 1 = (inSlot 0 5 5).getX 2 ∧ (inSlot 0 5 6).getX 1 ≠ (inSlot 0 5 6).getX 2 ∧
    ((inSlot 0 0 0).getX 1).toInt ≤ 0 ∧ 0 < ((inSlot 0 1 0).getX 1).toInt ∧
    ((inSlot 0 0xFFFFFFFFFFFFFFFF 0).getX 1).toInt < 0 ∧ 0 ≤ ((inSlot 0 0 0).getX 1).toInt ∧ (1 : RegId) ≠ 31 := by decide

/-- Witness of CompletesOutsideDelaySlot, and of the two refusals of its second clause. -/
theorem witness_completes :
    State.reset.delayPC = 0 ∧ (Instr.bltzal 30 4).wellFormed = true ∧
    step (inSlot 0x08000400 0 0) = .refused .controlTransferInDelaySlot ∧
    step (at1000 0x07F00003 0 0) = .refused .linkRegisterTested := ⟨by decide, by decide, rfl, rfl⟩

/-- Witnesses of JumpTakesEffectAfterSlot: `J`, `JAL`, `JR` with a slot that retires, and the likely branch. -/
theorem witness_jumpTakesEffectAfterSlot :
    (at1000 0x08000400 0 0).halt = false ∧ (at1000 0x08000400 0 0).delayPC = 0 ∧
    (at1000 0x08000400 0 0).faults (.readWord 0x1000) = false ∧
    decode ((at1000 0x08000400 0 0).answeredWord 0x1000) = .ok (.j 0x400) ∧ jumpAddress 0x1000 0x400 ≠ 0 ∧
    decode ((at1000 0x0C000808 0 0).answeredWord 0x1000) = .ok (.jal 0x808) ∧ jumpAddress 0x1000 0x808 ≠ 0 ∧
    decode ((at1000 0x00200008 0x200C 0).answeredWord 0x1000) = .ok (.jr 1 0 0 0) ∧
    BitVec.ofInt 32 (low ((at1000 0x00200008 0x200C 0).getX 1)) ≠ 0 ∧
    Params.invalidTarget Params.default (jumpAddress 0x1000 0x400) = false ∧
    decode ((at1000 0x50220003 5 6).answeredWord 0x1000) = .ok (.beql 1 2 3) ∧
    (at1000 0x50220003 5 6).getX 1 ≠ (at1000 0x50220003 5 6).getX 2 := by decide

/-- The second step of JumpTakesEffectAfterSlot: the slot of the `J` retires. -/
theorem witness_slotRetires : ∃ u, hostRun 2 none (at1000 0x08000400 0 0) = .next u ∧
    (!u.halt && decide (u.pc = 0x1000) && decide (u.opsExecuted = 2)) = true := exists_next (by decide)

/-- Witnesses of TargetZeroIsLost: a jump, a register, a branch whose target is 0. -/
theorem witness_targetZeroIsLost :
    (at1000 0x08000000 0 0).delayPC = 0 ∧ Params.invalidTarget Params.default 0 = false ∧ jumpAddress 0x1000 0 = 0 ∧
    low ((at1000 0 0xFFFFFFFF00000000 0).getX 1) = 0 ∧ (at1000 0 5 5).getX 1 = (at1000 0 5 5).getX 2 ∧
    branchAddress 0x1000 0xFBFF = 0 := by decide

/-- Witness of EffectiveAddressWraps: two bases that differ in the high half only. -/
theorem witness_effectiveAddress : low 0xFFFFFFFF00000104 = low 0x104 ∧ (0xFFFFFFFF00000104 : DWord) ≠ 0x104 := by decide

/-- Witnesses of the load statements: a byte read, a word read aligned and misaligned, and one that a collaborator faults. -/
theorem witness_loads :
    (0x108 : Word) = BitVec.ofInt 32 (low 0x100 + (8 : BitVec 16).toInt) ∧ State.reset.faults (.readByte 0x108) = false ∧
    (answering .fault).faults (.readByte 0x108) = true ∧
    (0xFFFFFFFC : Word) = BitVec.ofInt 32 (low 0 + (0xFFFC : BitVec 16).toInt) ∧
    State.reset.faults (.readWord 0xFFFFFFFC) = false ∧ State.reset.faults (.readWord 0xFFFFFFFD) = true ∧
    (withParams State.reset composing).faults (.readWord 0xFFFFFFFD) = false ∧
    (answering (.value 7)).faults (.readWord 0xFFFFFFFD) = false := by decide

/-- A collaborator that is no storage: the fetch is answered with `LBU $2, 8($1)`, the load with 0xAC. -/
theorem test_oracle : nextIs (step { State.reset with answers := [.value 0x90220008, .value 0x1AC, .fault] })
    (fun t => decide (t.getX 2 = 0xAC) && decide (t.answers = [.fault])) = true := by decide

/-- Witnesses of the store statements: a byte and a word write answered, and each faulting. -/
theorem witness_stores :
    (0x108 : Word) = BitVec.ofInt 32 (low 0x100 + (8 : BitVec 16).toInt) ∧ (0xAC : Byte) = BitVec.ofInt 8 (low 0x123400AC) ∧
    (0x80000001 : Word) = BitVec.ofInt 32 (low 0xFFFFFFFF80000001) ∧ State.reset.faults (.writeByte 0x109 0xAC) = false ∧
    (answering .fault).faults (.writeByte 0x109 0xAC) = true ∧ State.reset.faults (.writeWord 0x108 0x80000001) = false ∧
    State.reset.faults (.writeWord 0x109 0x80000001) = true := by
  decide

/-- Witnesses of ByteOrderIsBigEndian: a word at 0x108, and one that wraps at the top of the address space under `compose`; a byte
in the last place of a word. -/
theorem witness_byteOrder :
    (at1000 0 0x100 7).memoryCanonical ∧ effectiveAddress ((at1000 0 0x100 7).getX 1) 8 = 0x108 ∧
    (at1000 0 0x100 7).faults (.writeWord 0x108 (BitVec.ofInt 32 (low ((at1000 0 0x100 7).getX 2)))) = false ∧
    effectiveAddress ((at1000 0 0 7).getX 1) 0xFFFE = 0xFFFFFFFE ∧
    (withParams (at1000 0 0 7) composing).faults (.writeWord 0xFFFFFFFE 7) = false ∧
    effectiveAddress ((at1000 0 0x100 7).getX 1) 3 = 0x100 + 3 ∧ (at1000 0 0x100 7).faults (.writeByte (0x100 + 3) 7) = false :=
  ⟨rfl, by decide⟩

/-- Behind a collaborator that answers two fetches, a write and a read: `SB $2, 8($1)`, then `LBU $3, 8($1)`, whose listed answer
`last` R56 overrules (20_memory.md R56). -/
def storeThenLoad (last : PortAnswer) : State :=
  { (State.reset.setX 1 0x100).setX 2 0x123400AC with
    answers := [.value 0xA0220008, .value 0, .value 0x90230008, last] }

/-- The byte stored is the byte loaded, also where 5 or a fault is listed (20_memory.md R56). -/
theorem test_roundTrip : [.value 5, .fault].all (fun a => nextIs (runSteps 2 (storeThenLoad a))
    (fun t => decide (t.getX 3 = 0xAC) && decide (t.answers = []) && !t.halt)) = true := by decide

/-- The bytes a word write covers, also over the top of the address space, and that they are bound no longer, while a byte write
binds its byte once (20_memory.md R46, R56). -/
theorem test_settled :
    [0xFFFFFFFD, 0xFFFFFFFE, 0xFFFFFFFF, 0, 1, 2].map (PortCall.writes (.writeWord 0xFFFFFFFE 7)) =
      [false, true, true, true, true, false] ∧
    ({ State.reset with settled := [0x107, 0x108, 0x10B, 0x10C] }.called (.writeWord 0x108 7)).settled = [0x107, 0x10C] ∧
    ({ State.reset with settled := [0x107, 0x108] }.called (.writeByte 0x108 7)).settled = [0x108, 0x107] ∧
    ({ answering .fault with settled := [0x107, 0x108] }.called (.writeByte 0x108 7)).settled = [0x107] ∧
    ({ State.reset with settled := [0x107, 0x108] }.called (.readWord 0x108)).settled = [0x107, 0x108] := by decide

/-- Witness of StoredByteLoadsBack: behind `FlatMem` and behind another collaborator, no step between and one step between, two ways to
the address 0x108. -/
theorem witness_storedByteLoadsBack :
    (at1000 0 0x100 0x108).memoryCanonical ∧ (storeThenLoad .fault).memoryCanonical ∧ (at1000 0 0x100 0x108).answers = [] ∧
    (0x108 : Word) = effectiveAddress ((at1000 0 0x100 0x108).getX 1) 8 ∧
    (0xAC : Byte) = BitVec.ofNat 8 ((storeThenLoad .fault).getX 2).toNat ∧
    (storeThenLoad .fault).faults (.writeByte 0x108 0xAC) = false ∧
    effectiveAddress ((at1000 0 0x100 0x108).getX 2) 0 = effectiveAddress ((at1000 0 0x100 0x108).getX 1) 8 ∧
    (∃ t, runSteps 0 (storeThenLoad .fault) = .next t ∧
      decide (t.out.portCalls = [] ++ (storeThenLoad .fault).out.portCalls) = true) ∧
    (∃ t, runSteps 1 (at1000 0x8C230000 0x200 0) = .next t ∧
      decide (t.out.portCalls = [.readWord 0x200, .readWord 0x1000] ++ (at1000 0x8C230000 0x200 0).out.portCalls) = true) ∧
    (PortCall.readWord 0x200).writes 0x108 = false :=
  ⟨rfl, rfl, by decide, by decide, by decide, by decide, by decide, exists_next (by decide), exists_next (by decide), by decide⟩

/-- Witnesses of CollaboratorAnswers: the clauses, and `FlatMem` at the four remainders under each `MISALIGNED_WORD`; a byte that R56
binds behind a fault. -/
theorem witness_collaboratorAnswers :
    State.reset.answers = [] ∧ (answering (.value 7)).answers = [.value 7] ∧ (answering .fault).answers = [.fault] ∧
    [0x100, 0x101, 0x102, 0x103].map (fun a => State.reset.faults (.readWord a)) = [false, true, true, true] ∧
    [0x100, 0x101, 0x102, 0x103].map (fun a => (withParams State.reset composing).faults (.writeWord a 7)) =
      [false, false, false, false] ∧
    State.reset.faults (.readByte 0x101) = false ∧ State.reset.faults (.writeByte 0x101 7) = false ∧
    (0x108 : Word) ∈ { answering .fault with settled := [0x108] }.settled ∧
    { answering .fault with settled := [0x108] }.faults (.readByte 0x108) = false ∧
    { answering .fault with settled := [0x108] }.faults (.readByte 0x109) = true := by decide

/-- Witness of StoreIsSeenByNextFetch: `SW $2, 4($1)` with `x[1]` = 0x1000 writes the word after it. -/
theorem witness_storeIsSeenByNextFetch :
    (at1000 0xAC220004 0x1000 0x00221820).memoryCanonical ∧ (at1000 0xAC220004 0x1000 0x00221820).answers = [] ∧
    (at1000 0xAC220004 0x1000 0x00221820).halt = false ∧ (at1000 0xAC220004 0x1000 0x00221820).delayPC = 0 ∧
    (at1000 0xAC220004 0x1000 0x00221820).fetches 0xAC220004 ∧ decode 0xAC220004 = .ok (.sw 1 2 4) ∧
    effectiveAddress ((at1000 0xAC220004 0x1000 0x00221820).getX 1) 4 = 0x1000 + 4 := by
  unfold State.fetches; exact ⟨rfl, by decide⟩

/-- Witnesses of ControlRegisterMoves: a register that may be written, and one that may not. -/
theorem witness_controlRegisterMoves : Params.writable status12 12 = true ∧ Params.writable status12 13 = false ∧
    Params.writable Params.default 12 = false := by decide

/-- Witnesses of the frames of one register: an arithmetic instruction, a load, a move from a control register. -/
theorem witness_frameOneRegister :
    shapeOf (.add 1 2 3 0) = .register 3 ∧ (∃ t, exec (.add 1 2 3 0) (at1000 0 1 2) = .next t ∧ decide (t.getX 3 = 3) = true) ∧
    shapeOf (.lw 1 2 0xFFFC) = .load 2 ∧ (∃ t, exec (.lw 1 2 0xFFFC) (at1000 0 0x104 2) = .next t ∧ decide (t.getX 2 = 0) = true) ∧
    shapeOf (.mfc0 2 12 0) = .register 2 :=
  ⟨rfl, exists_next (by decide), rfl, exists_next (by decide), rfl⟩

/-- Witnesses of FrameAccumulatorsAndControl: a multiply; `MTC0` to a register that may be written, and to one that may not. -/
theorem witness_frameAccumulatorsAndControl :
    shapeOf (.mult 1 2 0 0) = .accumulators ∧ (∃ t, exec (.mult 1 2 0 0) (at1000 0 3 5) = .next t ∧ decide (t.lo = 15) = true) ∧
    shapeOf (.mtc0 2 12 0) = .control 12 ∧
    (∃ t, exec (.mtc0 2 12 0) (withParams (at1000 0 3 5) status12) = .next t ∧ decide (t.getC0 12 = 5) = true) ∧
    (∃ t, exec (.mtc0 2 12 0) (at1000 0 3 5) = .next t ∧ t.halt = true) :=
  ⟨rfl, exists_next (by decide), rfl, exists_next (by decide), exists_next (by decide)⟩

/-- Witnesses of FrameTransfersAndCache and FrameLinkingTransfers, one for each shape. -/
theorem witness_frameTransfers :
    shapeOf (.j 0x400) = .transfer ∧ (∃ t, exec (.j 0x400) (at1000 0 0 0) = .next t ∧ decide (t.delayPC = 0x1000) = true) ∧
    shapeOf (.beql 1 2 3) = .likelyTransfer ∧ (∃ t, exec (.beql 1 2 3) (at1000 0 5 6) = .next t ∧ decide (t.pc = 0x1008) = true) ∧
    shapeOf (.cache 1 20 0) = .nothing ∧ (∃ t, exec (.cache 1 20 0) (at1000 0 5 6) = .next t ∧ decide (t.pc = 0x1004) = true) ∧
    shapeOf (.bltzal 1 3) = .linkTransfer ∧
    (∃ t, exec (.bltzal 1 3) (at1000 0 0 0) = .next t ∧ decide (t.getX 31 = 0x1008) = true) :=
  ⟨rfl, exists_next (by decide), rfl, exists_next (by decide), rfl, exists_next (by decide), rfl, exists_next (by decide)⟩

/-- Witnesses of FrameStores: a byte and a word store, and a word store that wraps at the top of the address space. -/
theorem witness_frameStores :
    effectiveAddress ((at1000 0 0x100 0xAC).getX 1) 8 = 0x108 ∧
    (∃ t, exec (.sb 1 2 8) (at1000 0 0x100 0xAC) = .next t ∧ decide (t.mem.read 0x108 = 0xAC) = true) ∧
    (∃ t, exec (.sw 1 2 8) (at1000 0 0x100 0xAC) = .next t ∧ decide (t.mem.read 0x10B = 0xAC) = true) ∧
    (∃ t, exec (.sw 1 2 0xFFFE) (withParams (at1000 0 0 0xAC) composing) = .next t ∧
      decide (t.mem.read 1 = 0xAC) = true) :=
  ⟨by decide, exists_next (by decide), exists_next (by decide), exists_next (by decide)⟩

/-- After `NOR` has faulted the host writes `ADD $3, $1, $2` over it, and step() runs that at the same pc (60_exceptions.md R289). -/
theorem test_changeMemory_afterFault :
    nextIs (step (at1000 0x00221827 5 7)) (fun t => t.halt && nextIs (hostMove .step
        (t.changeMemory [(0x1000, 0x00), (0x1001, 0x22), (0x1002, 0x18), (0x1003, 0x20)]))
      (fun u => decide (u.getX 3 = 12) && decide (u.pc = 0x1004) && !u.halt)) = true := by decide

/-- The host's write is an intervening one: the byte at 0x108 is bound no longer, and the listed answer is what a load gets; the
byte beside it stays bound (60_exceptions.md R289, 20_memory.md R56). -/
theorem test_changeMemory_unbinds :
    (({ answering (.value 5) with settled := [0x108, 0x109] }.changeMemory [(0x108, 7)]).settled = [0x109]) ∧
    ({ answering (.value 5) with settled := [0x108, 0x109] }.changeMemory [(0x108, 7)]).answeredByte 0x108 = 5 ∧
    ({ State.reset with settled := [0x108, 0x109] }.changeMemory [(0x108, 7)]).answeredByte 0x108 = 7 := by decide

/-- Witnesses of FaultRecursUntilMemoryChanges: a fault of `NOR`, and one of `JAL` after its link write; a byte listed twice. -/
theorem witness_faultRecurs :
    (at1000 0x00221827 5 7).answers = [] ∧ (at1000 0x00221827 5 7).halt = false ∧
    (∃ t, step (at1000 0x00221827 5 7) = .next t ∧ (t.halt && decide (t.out.diagnostics =
      ⟨.unimplementedOperation, 0x1000, some 0x00221827⟩ :: (at1000 0x00221827 5 7).out.diagnostics)) = true) ∧
    (atUpper 0x0C000808 0 0).answers = [] ∧ (atUpper 0x0C000808 0 0).halt = false ∧
    (∃ t, step (atUpper 0x0C000808 0 0) = .next t ∧ (t.halt && decide (t.getX 31 ≠ 0) && decide (t.out.diagnostics =
      ⟨.invalidBranchTarget 0x80002020, 0x80000000, some 0x0C000808⟩ :: (atUpper 0x0C000808 0 0).out.diagnostics)) = true) ∧
    State.reset.memoryCanonical ∧ ([(0x108, 1), (0x108, 7)] : List (Word × Byte)) = [(0x108, 1)] ++ (0x108, 7) :: [] :=
  ⟨rfl, by decide, exists_next (by decide), rfl, by decide, exists_next (by decide), rfl, rfl⟩

end Sys2Proof.Tests
end

section
/-! Proofs of the statements of 10_state.md: invariants of the registers and the parameters, and what no instruction reads. -/

namespace Sys2Proof.Machine

/-! ## Invariants of a step and of a host move -/

/-- What the fetch, a captured fault and every instruction keep, every step keeps. -/
theorem step_invariant {P : State → Prop} (hcall : ∀ s c, P s → P (s.called c))
    (hcapture : ∀ s k w, P s → P (s.capture k w)) (hexec : ∀ i s t, P s → exec i s = .next t → P t) {s t : State} (hs : P s) (h : step s = .next t) : P t := by
  have hr := h ▸ step_stepped s
  cases hr with
  | halted => exact hs
  | fetchFault => exact hcapture _ _ _ (hcall _ _ hs)
  | reserved => exact hcapture _ _ _ (hcall _ _ hs)
  | ran _ i _ _ _ _ he => exact hexec i _ t (hcall _ _ hs) he.symm

section HostMoves

variable {P : State → Prop} (hstep : ∀ s t, P s → step s = .next t → P t) (hhalt : ∀ s b, P s → P { s with halt := b })

include hstep hhalt

/-- What every step and every write of `halt` keep, the loop of `run` keeps (40_step_and_dispatch.md R101, R104). -/
theorem runLoop_invariant (n : Nat) (request : Option Nat) {s t : State} (hs : P s) (h : runLoop n request s = .next t) :
    P t := by
  induction n generalizing request s with
  | zero =>
    unfold runLoop at h
    cases h
    split
    · exact hhalt s true hs
    · exact hs
  | succ n ih =>
    unfold runLoop at h
    split at h
    · cases h; exact hhalt s true hs
    · split at h
      · cases h; exact hs
      · split at h
        · next u hu => exact ih _ (hstep s u hs hu) h
        · cases h
        · cases h

variable (hpulse : ∀ s, P s → P s.pulseRefresh)

include hpulse

theorem hostRun_invariant (n : Nat) (request : Option Nat) {s t : State} (hs : P s) (h : hostRun n request s = .next t) :
    P t := by
  unfold hostRun at h
  split at h
  · next u hu => cases h; exact hpulse u (runLoop_invariant hstep hhalt n request (hhalt s false hs) hu)
  · cases h
  · cases h

/-- What every step and each of the host's own writes keep, every host move keeps. -/
theorem hostMove_invariant (hreset : ∀ s, P s → P (hostReset s)) (hbyte : ∀ s a v, P s → P (s.changeByte a v))
    (m : HostMove) {s t : State} (hs : P s) (h : hostMove m s = .next t) : P t := by
  cases m with
  | step => exact hostRun_invariant hstep hhalt hpulse 1 none hs h
  | run n request => exact hostRun_invariant hstep hhalt hpulse n request hs h
  | reset => cases h; exact hreset s hs
  | requestHalt => cases h; exact hhalt s true hs
  | changeMemory bytes =>
    cases h
    induction bytes generalizing s with
    | nil => exact hs
    | cons b bytes ih => exact ih (hbyte s b.1 b.2 hs)

end HostMoves

/-! ## Canonical registers (10_state.md R14) -/

theorem canonical_of_same_registers {s t : State} (hx : t.x = s.x) (hhi : t.hi = s.hi) (hlo : t.lo = s.lo)
    (h : s.canonical) : t.canonical := by
  unfold State.canonical State.getX at *
  rwa [hx, hhi, hlo]

theorem setX_canonical {s : State} {r : RegId} {v : DWord} (h : s.canonical) (hv : canonicalValue v) :
    (s.setX r v).canonical := by
  refine ⟨fun q => ?_, h.2⟩
  rw [setX_getX]
  split
  · exact hv
  · exact h.1 q

theorem link_canonical {s : State} (h : s.canonical) : s.link.canonical := setX_canonical h (sext64_canonical _)

theorem exec_keeps_canonical {i : Instr} {s t : State} (hs : s.canonical) (h : exec i s = .next t) : t.canonical := by
  have hr := h ▸ exec_ran i s
  cases hr with
  | register r v _ hv => exact setX_canonical hs (hv hs)
  | accumulators _ _ _ hhi hlo => exact ⟨hs.1, hhi, hlo⟩
  | loaded c r v _ _ hv => exact setX_canonical hs hv
  | linkedOnly => exact link_canonical hs
  | linkScheduled => exact link_canonical hs
  | linkInvalidTarget => exact link_canonical hs
  | _ => exact canonical_of_same_registers rfl rfl rfl hs

/-- Settles O13: the fetch and a fault write no register, and an instruction writes canonical values from canonical registers. -/
theorem stepKeepsCanonicalRegisters : Obligations.StepKeepsCanonicalRegisters := fun _ _ =>
  step_invariant (fun _ _ hs => hs) (fun _ _ _ hs => hs) fun _ _ _ => exec_keeps_canonical

/-! ## What no instruction reads

A two-run claim is an equation of one run: `exec` commutes with forgetting the fields in question. Both claims forget fields
that no meaning but that of `MFC0` reads, so one proof over the instructions serves both: below, `c` and `o` say whether the
control registers and the outputs are forgotten. -/

/-- `s` with the control registers forgotten if `control`, and `halt`, `opsExecuted` and the record of outputs if `outputs`. -/
def State.hide (control outputs : Bool) (s : State) : State :=
  { s with
    c0 := if control then State.reset.c0 else s.c0
    halt := if outputs then State.reset.halt else s.halt
    opsExecuted := if outputs then State.reset.opsExecuted else s.opsExecuted
    out := if outputs then State.reset.out else s.out }

theorem sameButOutputs_iff {s t : State} : SameButOutputs s t ↔ s.hide false true = t.hide false true := by
  constructor
  · intro h
    rw [h]
    rfl
  · intro h
    exact (congrArg (fun u : State => { u with halt := t.halt, opsExecuted := t.opsExecuted, out := t.out }) h.symm :)

theorem sameButControl_iff {s t : State} : SameButControl s t ↔ s.hide true false = t.hide true false := by
  constructor
  · intro h
    rw [h]
    rfl
  · intro h
    exact (congrArg (fun u : State => { u with c0 := t.c0 }) h.symm :)

/-- Outcomes that `f` makes equal agree up to what `f` forgets; the outcome `fault` has no reason, so it does not occur. -/
theorem outcomesAgree_of_mapNext_eq {same : State → State → Prop} {f : State → State} (hf : ∀ {s t}, f s = f t → same s t)
    {p q : Outcome} (h : mapNext f p = mapNext f q) : OutcomesAgree same p q := by
  cases p with
  | next s =>
    cases q with
    | next t => exact hf (Host.Outcome.next.inj h)
    | fault r => cases r
    | refused r => cases h
  | fault r => cases r
  | refused r =>
    cases q with
    | next t => cases h
    | fault r => cases r
    | refused q => exact Host.Outcome.refused.inj h

section Hide

variable {c o : Bool} (s : State)

/-! ### The shared operations do not see what is hidden -/

theorem hide_hide : (s.hide c o).hide c o = s.hide c o := by cases c <;> cases o <;> rfl

theorem hide_setC0 (r : RegId) (v : Word) : ((s.hide c o).setC0 r v).hide c o = (s.setC0 r v).hide c o := by
  cases c <;> cases o <;> rfl

theorem hide_called (p : PortCall) : ((s.hide c o).called p).hide c o = (s.called p).hide c o := by
  cases c <;> cases o <;> rfl

theorem hide_capture (k : FaultKind) (w : Option Word) : ((s.hide c o).capture k w).hide c o = (s.capture k w).hide c o := by
  cases c <;> cases o <;> rfl

theorem hide_countOp : (s.hide c o).countOp.hide c o = s.countOp.hide c o := by cases c <;> cases o <;> rfl

theorem hide_updatePC (p d : Word) (annul : Bool) : (s.updatePC p d annul).hide c o = (s.hide c o).updatePC p d annul := by
  unfold State.updatePC
  split
  · rfl
  · split <;> rfl

/-! ### They take states that agree on all that is not hidden to such states -/

variable {u u' : State} (hu : u'.hide c o = u.hide c o)

include hu

theorem setX_hide_congr (r : RegId) (v : DWord) : (u'.setX r v).hide c o = (u.setX r v).hide c o :=
  congrArg (State.setX · r v) hu

theorem setProduct_hide_congr (v : DWord) : (u'.setProduct v).hide c o = (u.setProduct v).hide c o :=
  congrArg (State.setProduct · v) hu

theorem setMem_hide_congr (m : Memory) : (u'.setMem m).hide c o = (u.setMem m).hide c o := congrArg (State.setMem · m) hu

theorem capture_hide_congr (k : FaultKind) (w : Option Word) : (u'.capture k w).hide c o = (u.capture k w).hide c o := by
  rw [← hide_capture u', hu, hide_capture]

theorem retired_hide_congr (p d : Word) (annul : Bool) :
    (u'.updatePC p d annul).countOp.hide c o = (u.updatePC p d annul).countOp.hide c o := by
  rw [← hide_countOp, hide_updatePC, hu, ← hide_updatePC, hide_countOp]

omit hu

/-! ### The ends of an instruction -/

/-- The outcomes are the same but for what is hidden. -/
def AgreeHiding (c o : Bool) (p q : Outcome) : Prop := mapNext (State.hide c o) p = mapNext (State.hide c o) q

include hu in
theorem agreeHiding_next : AgreeHiding c o (.next u') (.next u) := congrArg Host.Outcome.next hu

theorem agreeHiding_of_eq {p p' q q' : Outcome} (hp : p' = q') (hq : p = q) (h : AgreeHiding c o q' q) :
    AgreeHiding c o p' p := by
  rwa [hp, hq]

theorem raiseUnimplemented_hide (w : Word) :
    AgreeHiding c o (raiseUnimplemented w (s.hide c o)) (raiseUnimplemented w s) :=
  agreeHiding_next (hide_capture s _ _)

include hu

theorem retire_hide (annul : Bool) : AgreeHiding c o (retire (s.hide c o) annul u') (retire s annul u) :=
  agreeHiding_next (retired_hide_congr hu s.pc s.delayPC annul)

theorem finish_hide : AgreeHiding c o (finish (s.hide c o) u') (finish s u) := retire_hide s hu false

theorem scheduleBranch_hide {w t : Word} : AgreeHiding c o (scheduleBranch w t (s.hide c o) u') (scheduleBranch w t s u) := by
  have hd : (s.hide c o).delayPC = s.delayPC := rfl
  have hi : Params.invalidTarget u'.params t = Params.invalidTarget u.params t :=
    (congrArg (fun v : State => Params.invalidTarget v.params t) hu :)
  unfold scheduleBranch
  rw [hd, hi]
  split
  · rfl
  · split
    · exact agreeHiding_next (capture_hide_congr hu _ _)
    · exact finish_hide s (congrArg (fun v : State => { v with delayPC := t }) hu)

theorem branchIf_hide {b : Bool} {w t : Word} :
    AgreeHiding c o (branchIf b w t (s.hide c o) u') (branchIf b w t s u) := by
  cases b with
  | false => exact finish_hide s hu
  | true => exact scheduleBranch_hide s hu

omit hu

theorem register_hide {r : RegId} {v : DWord} :
    AgreeHiding c o (finish (s.hide c o) ((s.hide c o).setX r v)) (finish s (s.setX r v)) :=
  finish_hide s (setX_hide_congr (hide_hide s) r v)

theorem annulSlot_hide : AgreeHiding c o (annulSlot (s.hide c o)) (annulSlot s) := by
  have hd : (s.hide c o).delayPC = s.delayPC := rfl
  unfold annulSlot
  rw [hd]
  split
  · rfl
  · exact retire_hide s (hide_hide s) true

theorem branchLikely_hide {b : Bool} {w t : Word} :
    AgreeHiding c o (branchLikely b w t (s.hide c o)) (branchLikely b w t s) := by
  cases b with
  | false => exact annulSlot_hide s
  | true => exact scheduleBranch_hide s (hide_hide s)

/-! ### Loads and stores -/

theorem hide_faults (p : PortCall) : (s.hide c o).faults p = s.faults p := rfl

theorem portFault_hide (p : PortCall) (a : Word) (w : Option Word) :
    AgreeHiding c o (.next (((s.hide c o).called p).capture (.memoryFault a) w))
      (.next ((s.called p).capture (.memoryFault a) w)) :=
  agreeHiding_next (capture_hide_congr (hide_called s p) _ _)

theorem loadByte_hide {r : RegId} {w : Option Word} {a : Word} {f : Byte → DWord} :
    AgreeHiding c o (finishLoad (s.hide c o) r f ((s.hide c o).memReadByte w a)) (finishLoad s r f (s.memReadByte w a)) := by
  unfold State.memReadByte
  rw [hide_faults]
  split
  · exact portFault_hide s _ a w
  · exact finish_hide s (setX_hide_congr (hide_called s _) r _)

theorem loadWord_hide {r : RegId} {w : Option Word} {a : Word} {f : Word → DWord} :
    AgreeHiding c o (finishLoad (s.hide c o) r f ((s.hide c o).memReadWord w a)) (finishLoad s r f (s.memReadWord w a)) := by
  unfold State.memReadWord
  rw [hide_faults]
  split
  · exact portFault_hide s _ a w
  · exact finish_hide s (setX_hide_congr (hide_called s _) r _)

theorem storeByte_hide {w : Option Word} {a : Word} {v : Byte} :
    AgreeHiding c o (finishStore (s.hide c o) ((s.hide c o).memWriteByte w a v)) (finishStore s (s.memWriteByte w a v)) := by
  unfold State.memWriteByte
  rw [hide_faults]
  split
  · exact portFault_hide s _ a w
  · exact finish_hide s (setMem_hide_congr (hide_called s _) _)

theorem storeWord_hide {w : Option Word} {a v : Word} :
    AgreeHiding c o (finishStore (s.hide c o) ((s.hide c o).memWriteWord w a v)) (finishStore s (s.memWriteWord w a v)) := by
  unfold State.memWriteWord
  rw [hide_faults]
  split
  · exact portFault_hide s _ a w
  · exact finish_hide s (setMem_hide_congr (hide_called s _) _)

/-! ### The instructions -/

/-- No instruction sees what is hidden, but for `MFC0`, which sees the control registers. The rows that are not named fault on
every operand. -/
theorem exec_hide (i : Instr) (hi : c = true → ∀ rt rd low11, i ≠ .mfc0 rt rd low11) :
    AgreeHiding c o (exec i (s.hide c o)) (exec i s) := by
  cases i with
  | j => exact scheduleBranch_hide s (hide_hide s)
  | jal => exact scheduleBranch_hide s (setX_hide_congr (hide_hide s) _ _)
  | beq => exact branchIf_hide s (hide_hide s)
  | bne => exact branchIf_hide s (hide_hide s)
  | blez => exact branchIf_hide s (hide_hide s)
  | bgtz => exact branchIf_hide s (hide_hide s)
  | addi => exact register_hide s
  | addiu => exact register_hide s
  | slti => exact register_hide s
  | sltiu => exact register_hide s
  | andi => exact register_hide s
  | ori => exact register_hide s
  | xori => exact register_hide s
  | beql => exact branchLikely_hide s
  | bnel => exact branchLikely_hide s
  | blezl => exact branchLikely_hide s
  | bgtzl => exact branchLikely_hide s
  | lb => exact loadByte_hide s
  | lw => exact loadWord_hide s
  | lbu => exact loadByte_hide s
  | sb => exact storeByte_hide s
  | sw => exact storeWord_hide s
  | cache => exact finish_hide s (hide_hide s)
  | sll => exact register_hide s
  | srl => exact register_hide s
  | sra => exact register_hide s
  | sllv => exact register_hide s
  | srlv => exact register_hide s
  | srav => exact register_hide s
  | jr => exact scheduleBranch_hide s (hide_hide s)
  | mfhi => exact register_hide s
  | mflo => exact register_hide s
  | mult => exact finish_hide s (setProduct_hide_congr (hide_hide s) _)
  | multu => exact finish_hide s (setProduct_hide_congr (hide_hide s) _)
  | add => exact register_hide s
  | addu => exact register_hide s
  | sub => exact register_hide s
  | subu => exact register_hide s
  | and => exact register_hide s
  | or => exact register_hide s
  | xor => exact register_hide s
  | slt => exact register_hide s
  | sltu => exact register_hide s
  | bltz => exact branchIf_hide s (hide_hide s)
  | bgez => exact branchIf_hide s (hide_hide s)
  | bltzl => exact branchLikely_hide s
  | bgezl => exact branchLikely_hide s
  | bltzal rs imm16 =>
    by_cases h : rs = linkReg
    · exact agreeHiding_of_eq (if_pos h) (if_pos h) rfl
    · exact agreeHiding_of_eq (if_neg h) (if_neg h) (branchIf_hide s (setX_hide_congr (hide_hide s) _ _))
  | bgezal rs imm16 =>
    by_cases h : rs = linkReg
    · exact agreeHiding_of_eq (if_pos h) (if_pos h) rfl
    · exact agreeHiding_of_eq (if_neg h) (if_neg h) (branchIf_hide s (setX_hide_congr (hide_hide s) _ _))
  | mfc0 rt rd low11 =>
    cases c with
    | false => exact register_hide s
    | true => exact absurd rfl (hi rfl rt rd low11)
  | mtc0 rt rd low11 =>
    by_cases h : Params.writable s.params rd = true
    · exact agreeHiding_of_eq (if_pos h) (if_pos h) (finish_hide s (hide_setC0 s _ _))
    · exact agreeHiding_of_eq (if_neg h) (if_neg h) (raiseUnimplemented_hide s _)
  | _ => exact raiseUnimplemented_hide s _

end Hide

/-- Two runs of an instruction, from states that agree on all that is not hidden. -/
theorem exec_agree {c o : Bool} {i : Instr} {s t : State} (hi : c = true → ∀ rt rd low11, i ≠ .mfc0 rt rd low11)
    (h : s.hide c o = t.hide c o) : AgreeHiding c o (exec i s) (exec i t) :=
  ((exec_hide s i hi).symm.trans (by rw [h])).trans (exec_hide t i hi)

/-- Settles O17: `exec` commutes with forgetting `halt`, `opsExecuted` and the outputs. -/
theorem outputsHaltCounterNotRead : Obligations.OutputsHaltCounterNotRead := fun _ _ _ h =>
  outcomesAgree_of_mapNext_eq sameButOutputs_iff.2 (exec_agree nofun (sameButOutputs_iff.1 h))

/-- Settles O18: `exec` of any instruction but `MFC0` commutes with forgetting the control registers. -/
theorem controlRegistersReadOnlyByMfc0 : Obligations.ControlRegistersReadOnlyByMfc0 := fun _ _ _ hi h =>
  outcomesAgree_of_mapNext_eq sameButControl_iff.2 (exec_agree (fun _ => hi) (sameButControl_iff.1 h))

/-! ## The parameters and the refresh pulses -/

theorem exec_keeps_params {i : Instr} {s t : State} (h : exec i s = .next t) :
    t.params = s.params ∧ t.out.refreshPulses = s.out.refreshPulses := by
  have hr := h ▸ exec_ran i s
  cases hr <;> exact ⟨rfl, rfl⟩

theorem step_keeps_params {s t : State} (h : step s = .next t) :
    t.params = s.params ∧ t.out.refreshPulses = s.out.refreshPulses :=
  step_invariant (P := fun u => u.params = s.params ∧ u.out.refreshPulses = s.out.refreshPulses)
    (fun _ _ hu => hu) (fun _ _ _ hu => hu)
    (fun _ _ _ hu he => ⟨(exec_keeps_params he).1.trans hu.1, (exec_keeps_params he).2.trans hu.2⟩) ⟨rfl, rfl⟩ h

/-- Settles O16: a step writes neither, and no write of the host is to the parameters. -/
theorem parametersNeverChange : Obligations.ParametersNeverChange := fun s _ =>
  ⟨step_keeps_params, fun m => hostMove_invariant (P := fun u => u.params = s.params)
    (fun _ _ hu h => (step_keeps_params h).1.trans hu) (fun _ _ hu => hu) (fun _ hu => hu) (fun _ hu => hu)
    (fun _ _ _ hu => hu) m rfl⟩

/-! ## GPR 0 (10_state.md R12) -/

/-- An instruction changes no general register that its shape does not name. -/
theorem exec_getX_of_not_written {i : Instr} {s t : State} {q : RegId} (h : exec i s = .next t)
    (hreg : shapeOf i ≠ .register q) (hload : shapeOf i ≠ .load q) (hlink : shapeOf i = .linkTransfer → q ≠ linkReg) :
    t.getX q = s.getX q := by
  have hr := h ▸ exec_ran i s
  cases hr with
  | register r v hs => exact setX_getX_ne s r q v fun hq => hreg (hq ▸ hs)
  | loaded c r v hs => exact setX_getX_ne (s.called c) r q v fun hq => hload (hq ▸ hs)
  | linkedOnly hs => exact link_getX_ne s q (hlink hs)
  | linkScheduled _ hs => exact link_getX_ne s q (hlink hs)
  | linkInvalidTarget _ hs => exact link_getX_ne s q (hlink hs)
  | _ => rfl

/-- The sum that `ADDIU` writes is read back from its destination, register 0 included (10_state.md R12, 41_alu.md R116). -/
theorem exec_addiu_getX (rs rt : RegId) (imm16 : BitVec 16) (s : State) :
    ∃ t, exec (.addiu rs rt imm16) s = .next t ∧ t.getX rt = signed32Result (low (s.getX rs) + imm16.toInt) := by
  refine ⟨_, finish_setX s rt _, ?_⟩
  rw [advanced_getX, setX_getX_same, lo32_add_imm, sext64_ofInt]

/-- Settles O19: GPR 0 is written as any other, and only by an instruction whose shape names it; the link register is not GPR 0. -/
theorem gprZeroKeepsWhatIsWritten : Obligations.GprZeroKeepsWhatIsWritten := by
  refine ⟨fun rs => exec_addiu_getX rs 0, fun s t h0 h => ?_⟩
  have hr := h ▸ step_stepped s
  cases hr with
  | halted => exact .inl h0
  | fetchFault => exact .inl h0
  | reserved => exact .inl h0
  | ran w i _ _ hf hd he =>
    have hi : decode (s.answeredWord s.pc) = .ok i := by rw [hf.2, hd]
    by_cases hw : shapeOf i = .register 0 ∨ shapeOf i = .load 0
    · exact .inr ⟨i, hi, hw⟩
    · obtain ⟨hreg, hload⟩ := not_or.1 hw
      exact .inl ((exec_getX_of_not_written he.symm hreg hload fun _ => by decide).trans h0)

/-! ## Creation (10_state.md R25) -/

theorem canonicalValue_zero : canonicalValue 0 := canonicalValue_of_small fun _ _ => BitVec.getLsbD_zero

/-- Settles O15: each field is read off the state at creation; the fetch at 0 is aligned and answered by `FlatMem`. -/
theorem stateAtCreation : Obligations.StateAtCreation :=
  ⟨reset_getX, reset_getC0, rfl, rfl, rfl, rfl, rfl, rfl,
    ⟨fun r => (reset_getX r).symm ▸ canonicalValue_zero, canonicalValue_zero, canonicalValue_zero⟩, rfl, rfl, rfl, rfl, rfl⟩

end Sys2Proof.Machine
end

section
/-! Proofs of the statements of 20_memory.md: the calls a step makes on the port, the canonical form of memory, byte order, and
what the collaborator answers. -/

namespace Sys2Proof.Machine

/-! ## The calls of a step (20_memory.md R41, R45) -/

/-- From `s` to `t` exactly `calls` go out on the port, newest first, and each takes up one of the listed answers. -/
def Calls (calls : List PortCall) (s t : State) : Prop :=
  t.out.portCalls = calls ++ s.out.portCalls ∧ t.answers = s.answers.drop calls.length

theorem calls_trans {later earlier : List PortCall} {s t u : State} (h : Calls earlier s t) (h' : Calls later t u) :
    Calls (later ++ earlier) s u := by
  obtain ⟨hout, hans⟩ := h
  obtain ⟨hout', hans'⟩ := h'
  refine ⟨by rw [hout', hout, List.append_assoc], ?_⟩
  rw [hans', hans, List.drop_drop, List.length_append, Nat.add_comm]

theorem calls_called (s : State) (c : PortCall) : Calls [c] s (s.called c) := ⟨rfl, List.drop_one.symm⟩

/-- The end of a load or a store: one call, whether it is answered by a fault or not. -/
theorem calls_of_access {s t u : State} {c : PortCall} {k : FaultKind} {w : Option Word}
    (h : (if s.faults c then .next ((s.called c).capture k w) else .next u.advanced : Outcome) = .next t)
    (hout : u.out = (s.called c).out) (hans : u.answers = (s.called c).answers) : Calls [c] s t := by
  obtain ⟨hcalls, htaken⟩ := calls_called s c
  split at h
  · cases h; exact ⟨hcalls, htaken⟩
  · cases h; exact ⟨(congrArg Outputs.portCalls hout).trans hcalls, hans.trans htaken⟩

/-- The instruction is a load or a store. -/
def Shape.isAccess : Shape → Bool
  | .load _ | .store => true
  | _ => false

/-- An instruction that is no load and no store makes no call. -/
theorem calls_nil_of_not_access {i : Instr} {s t : State} (hi : (shapeOf i).isAccess = false)
    (h : exec i s = .next t) : Calls [] s t := by
  have hr := h ▸ exec_ran i s
  cases hr with
  | loaded _ _ _ hl => rw [hl] at hi; cases hi
  | stored _ _ hs => rw [hs] at hi; cases hi
  | portFault _ _ hp =>
    obtain ⟨⟨_, hl⟩, -⟩ | ⟨hs, -⟩ := hp
    · rw [hl] at hi; cases hi
    · rw [hs] at hi; cases hi
  | _ => exact ⟨rfl, rfl⟩

/-- An instruction makes the call it names, and no other. -/
theorem exec_calls {i : Instr} {s t : State} (h : exec i s = .next t) : Calls (accessOf i s).toList s t := by
  cases i with
  | lb => exact calls_of_access ((finishLoad_byte_eq ..).symm.trans h) rfl rfl
  | lbu => exact calls_of_access ((finishLoad_byte_eq ..).symm.trans h) rfl rfl
  | lw => exact calls_of_access ((finishLoad_word_eq ..).symm.trans h) rfl rfl
  | sb => exact calls_of_access ((finishStore_byte_eq ..).symm.trans h) rfl rfl
  | sw => exact calls_of_access ((finishStore_word_eq ..).symm.trans h) rfl rfl
  | _ => exact calls_nil_of_not_access rfl h

/-- The fetch does not change what an instruction calls for: its operands are registers. -/
theorem accessOf_called (i : Instr) (s : State) (c : PortCall) : accessOf i (s.called c) = accessOf i s := by
  simp only [accessOf, called_getX]

theorem secondCall_of_fetchFault {s : State} (h : s.faults (.readWord s.pc) = true) : secondCall s = none := if_pos h

theorem secondCall_of_reserved {s : State} {w : Word} {e : DecodeError} (hf : s.fetches w) (hd : decode w = .error e) :
    secondCall s = none := by
  simp [secondCall, hf.1, hf.2, hd]

theorem secondCall_of_decoded {s : State} {w : Word} {i : Instr} (hf : s.fetches w) (hd : decode w = .ok i) :
    secondCall s = accessOf i s := by
  simp [secondCall, hf.1, hf.2, hd]

/-- Settles O12: the fetch is one call, and after it the instruction makes its own. -/
theorem portCallsPerStep : Obligations.PortCallsPerStep := by
  intro s t hh h
  suffices hc : Calls ((secondCall s).toList ++ [.readWord s.pc]) s t by simpa [Calls] using hc
  have hfetch := calls_called s (.readWord s.pc)
  have hr := h ▸ step_stepped s
  cases hr with
  | halted hh' => exact absurd (hh.symm.trans hh') Bool.false_ne_true
  | fetchFault _ hf => rw [secondCall_of_fetchFault hf]; exact hfetch
  | reserved w e _ hf hd => rw [secondCall_of_reserved hf hd]; exact hfetch
  | ran w i _ _ hf hd he =>
    rw [secondCall_of_decoded hf hd, ← accessOf_called i s (.readWord s.pc)]
    exact calls_trans hfetch (exec_calls he.symm)

/-! ## The canonical form of memory -/

/-- Only a store writes memory, and it keeps the canonical form. -/
theorem exec_keeps_memoryCanonical {i : Instr} {s t : State} (hs : s.memoryCanonical) (h : exec i s = .next t) :
    t.memoryCanonical := by
  have hr := h ▸ exec_ran i s
  cases hr with
  | stored _ _ _ _ _ _ hwf => exact hwf hs
  | _ => exact hs

theorem step_keeps_memoryCanonical {s t : State} : s.memoryCanonical → step s = .next t → t.memoryCanonical :=
  step_invariant (fun _ _ hs => hs) (fun _ _ _ hs => hs) fun _ _ _ => exec_keeps_memoryCanonical

/-- Settles O14: of the operations that steps and host moves are made of, only stores and the host's byte writes touch memory. -/
theorem stepKeepsMemoryCanonical : Obligations.StepKeepsMemoryCanonical := fun _ _ hs =>
  ⟨step_keeps_memoryCanonical hs, fun m => hostMove_invariant (P := State.memoryCanonical)
    (fun _ _ => step_keeps_memoryCanonical) (fun _ _ hu => hu) (fun _ hu => hu) (fun _ hu => hu)
    (fun _ a v hu => Memory.write_wf v hu a.isLt) m hs⟩

/-! ## What the collaborator answers (20_memory.md R43, R46, R56) -/

/-- `FlatMem` faults a word call at a misaligned address where `MISALIGNED_WORD` = fault, and nothing else. -/
theorem flatFaults_iff (p : Params) (c : PortCall) :
    Params.flatFaults p c = true ↔
      p.misaligned = .fault ∧ ∃ b : Word, b.toNat % 4 ≠ 0 ∧ (c = .readWord b ∨ ∃ v, c = .writeWord b v) := by
  cases c <;> simp [Params.flatFaults, and_comm]

theorem wordOfBytes_toNat (b0 b1 b2 b3 : Byte) :
    (wordOfBytes b0 b1 b2 b3).toNat = b0.toNat * 2 ^ 24 + b1.toNat * 2 ^ 16 + b2.toNat * 2 ^ 8 + b3.toNat := by
  simp only [wordOfBytes, toNat_append_add]
  omega

/-- A word as the number of its four bytes, the most significant first (20_memory.md R42). -/
theorem Memory.readWord_toNat (m : Memory) (a : Word) :
    (m.readWord a).toNat =
      (m.read a.toNat).toNat * 2 ^ 24 + (m.read ((a.toNat + 1) % 2 ^ 32)).toNat * 2 ^ 16 +
        (m.read ((a.toNat + 2) % 2 ^ 32)).toNat * 2 ^ 8 + (m.read ((a.toNat + 3) % 2 ^ 32)).toNat := by
  rw [Memory.readWord, wordOfBytes_toNat, byteKey_zero, byteKey_eq, byteKey_eq, byteKey_eq]

theorem faults_of_value {s : State} {v : Word} {rest : List PortAnswer} (h : s.answers = .value v :: rest) (c : PortCall) :
    s.faults c = false := by
  simp [State.faults, h]

theorem answeredWord_of_value {s : State} {v : Word} {rest : List PortAnswer} (h : s.answers = .value v :: rest) (a : Word) :
    s.answeredWord a = v := by
  simp [State.answeredWord, h]

/-- The low byte of a value, as a number mod 2^8. -/
theorem extract_byte {n : Nat} (v : BitVec n) : v.extractLsb' 0 8 = BitVec.ofNat 8 v.toNat := by
  simp [BitVec.extractLsb']

theorem answeredByte_of_value {s : State} {v : Word} {rest : List PortAnswer} (h : s.answers = .value v :: rest) {a : Word}
    (ha : a ∉ s.settled) : s.answeredByte a = BitVec.ofNat 8 v.toNat := by
  simp [State.answeredByte, h, ha, extract_byte]

theorem binds_eq_false_of_forall_ne {s : State} {c : PortCall} (hc : ∀ b ∈ s.settled, c ≠ .readByte b) :
    s.binds c = false := by
  cases c with
  | readByte a => exact decide_eq_false fun ha => hc a ha rfl
  | _ => rfl

theorem faults_of_fault {s : State} {c : PortCall} {rest : List PortAnswer} (h : s.answers = .fault :: rest)
    (hc : ∀ b ∈ s.settled, c ≠ .readByte b) : s.faults c = true := by
  simp [State.faults, h, binds_eq_false_of_forall_ne hc]

/-- Settles O46: what is answered where no answer is listed, where R56 binds the byte, and where a value or a fault is listed. -/
theorem collaboratorAnswers : Obligations.CollaboratorAnswers := by
  intro s c a
  refine ⟨fun h => ⟨?_, answeredByte_of_flat h a, ?_⟩, fun ha => ⟨faults_of_settled ha, answeredByte_of_settled ha⟩,
    fun v rest h => ⟨faults_of_value h c, answeredWord_of_value h a, answeredByte_of_value h⟩,
    fun rest h => faults_of_fault h⟩
  · rw [faults_of_flat h, flatFaults_iff]
  · rw [answeredWord_of_flat h, Memory.readWord_toNat]

/-! ## Stores that are answered -/

theorem exec_sb_of_answered {s : State} {rs rt : RegId} {imm16 : BitVec 16} {a : Word} {v : Byte}
    (ha : effectiveAddress (s.getX rs) imm16 = a) (hv : BitVec.ofNat 8 (s.getX rt).toNat = v)
    (h : s.faults (.writeByte a v) = false) :
    exec (.sb rs rt imm16) s = .next ((s.called (.writeByte a v)).setMem (s.mem.write a.toNat v)).advanced := by
  subst ha
  subst hv
  rw [← extract_byte] at h ⊢
  exact finishStore_byte_done _ _ _ h

theorem exec_sw_of_answered {s : State} {rs rt : RegId} {imm16 : BitVec 16} {a : Word}
    (ha : effectiveAddress (s.getX rs) imm16 = a) (h : s.faults (.writeWord a (lo32 (s.getX rt))) = false) :
    exec (.sw rs rt imm16) s =
      .next ((s.called (.writeWord a (lo32 (s.getX rt)))).setMem (s.mem.writeWord a (lo32 (s.getX rt)))).advanced := by
  subst ha
  exact finishStore_word_done _ _ _ h

/-! ## Byte order (20_memory.md R42, decision D19) -/

/-- The byte at offset `k` of a register's low half. -/
theorem byteOfWord_lo32 (v : DWord) {k : Nat} (hk : k < 4) :
    byteOfWord (lo32 v) k = BitVec.ofNat 8 (v.toNat / 2 ^ (24 - 8 * k)) := by
  apply BitVec.eq_of_toNat_eq
  simp only [byteOfWord, BitVec.extractLsb'_toNat, lo32_toNat, BitVec.toNat_ofNat, Nat.shiftRight_eq_div_pow]
  interval_cases k <;> simp <;> omega

/-- A byte written in the last place of a word becomes its low byte, and leaves its other bits. -/
theorem Memory.readWord_write_last {m : Memory} (a : Word) (v : Byte) (hm : m.wf = true) :
    ((m.write (byteKey a 3) v).readWord a).toNat = (m.readWord a).toNat / 2 ^ 8 * 2 ^ 8 + v.toNat := by
  have hne : ∀ k < 3, (m.write (byteKey a 3) v).read (byteKey a k) = m.read (byteKey a k) := fun k hk =>
    Memory.read_write_ne m v fun e => by have := (byteKey_inj a (by omega) (by omega)).1 e; omega
  rw [Memory.readWord, Memory.readWord, hne 0 (by omega), hne 1 (by omega), hne 2 (by omega),
    Memory.read_write_same _ _ hm, wordOfBytes_toNat, wordOfBytes_toNat]
  have := (m.read (byteKey a 3)).isLt
  omega

/-- The low byte of a register, as the statements write it. -/
theorem ofInt_low_byte (v : DWord) : BitVec.ofInt 8 (low v) = BitVec.ofNat 8 v.toNat := by
  apply BitVec.eq_of_toNat_eq
  simp only [low, BitVec.toNat_ofInt, BitVec.toNat_ofNat]
  omega

/-- Settles O44: a store writes its bytes most significant first, and a byte store at `a + 3` replaces the low byte of the word. -/
theorem byteOrderIsBigEndian : Obligations.ByteOrderIsBigEndian := by
  refine ⟨fun rs rt imm16 s hm hf => ?_, fun rs rt imm16 s a hm ha hf => ?_⟩
  · rw [ofInt_low] at hf
    refine ⟨_, exec_sw_of_answered rfl hf, fun k hk => ?_⟩
    rw [advanced_mem, setMem_mem, ← byteKey_eq, Memory.read_writeWord _ _ hm hk, byteOfWord_lo32 _ hk]
  · rw [ofInt_low_byte] at hf
    refine ⟨_, exec_sb_of_answered ha rfl hf, ?_⟩
    rw [advanced_mem, setMem_mem]
    exact (Memory.readWord_write_last a _ hm).trans (by rw [BitVec.toNat_ofNat])

/-! ## A stored byte loads back (20_memory.md R56) -/

/-- A byte bound in `s` is still bound in `t`, with its value, if no call between writes it. -/
def KeepsBoundBytes (s t : State) : Prop :=
  ∃ calls, t.out.portCalls = calls ++ s.out.portCalls ∧ ∀ a ∈ s.settled, (∀ c ∈ calls, c.writes a = false) →
    a ∈ t.settled ∧ t.mem.read a.toNat = s.mem.read a.toNat

theorem keepsBoundBytes_trans {s t u : State} (h : KeepsBoundBytes s t) (h' : KeepsBoundBytes t u) : KeepsBoundBytes s u := by
  obtain ⟨calls, hout, hkeep⟩ := h
  obtain ⟨calls', hout', hkeep'⟩ := h'
  refine ⟨calls' ++ calls, by rw [hout', hout, List.append_assoc], fun a ha hw => ?_⟩
  obtain ⟨hat, hread⟩ := hkeep a ha fun c hc => hw c (List.mem_append_right _ hc)
  obtain ⟨hau, hread'⟩ := hkeep' a hat fun c hc => hw c (List.mem_append_left _ hc)
  exact ⟨hau, hread'.trans hread⟩

/-- Any number of steps keeps the bytes that R56 binds. -/
theorem runSteps_keepsBoundBytes {n : Nat} {s t : State} (h : runSteps n s = .next t) : KeepsBoundBytes s t := by
  induction n generalizing s with
  | zero => cases h; exact ⟨[], rfl, fun a ha _ => ⟨ha, rfl⟩⟩
  | succ n ih =>
    rw [runSteps_succ] at h
    split at h
    · next u hu => exact keepsBoundBytes_trans (step_keeps_byte hu) (ih h)
    · cases h
    · cases h

theorem runSteps_keeps_boundByte {n : Nat} {s t : State} {a : Word} {calls : List PortCall} (h : runSteps n s = .next t)
    (hout : t.out.portCalls = calls ++ s.out.portCalls) (hw : ∀ c ∈ calls, c.writes a = false) (ha : a ∈ s.settled) :
    a ∈ t.settled ∧ t.mem.read a.toNat = s.mem.read a.toNat := by
  obtain ⟨calls', hout', hkeep⟩ := runSteps_keepsBoundBytes h
  rw [← List.append_cancel_right (hout.symm.trans hout')] at hkeep
  exact hkeep a ha hw

/-- `LBU` of a byte that R56 binds completes, and its destination holds the byte zero-extended. -/
theorem exec_lbu_of_settled {s : State} {rs rt : RegId} {imm16 : BitVec 16} {a : Word} (ha : a ∈ s.settled)
    (he : effectiveAddress (s.getX rs) imm16 = a) :
    ∃ t, exec (.lbu rs rt imm16) s = .next t ∧ t.getX rt = BitVec.ofNat 64 (s.mem.read a.toNat).toNat := by
  subst he
  refine ⟨_, finishLoad_byte_done _ _ _ _ (faults_of_settled ha), ?_⟩
  rw [advanced_getX, setX_getX_same, zext64OfByte_eq, answeredByte_of_settled ha]

/-- Settles O45: an accepted `SB` binds its byte, steps that do not write the byte keep it bound, and a bound byte is what `LBU`
reads. -/
theorem storedByteLoadsBack : Obligations.StoredByteLoadsBack := by
  refine ⟨fun _ _ _ h => faults_of_flat h _, fun rs rt imm16 s a v hm ha hv hf => ?_⟩
  refine ⟨_, exec_sb_of_answered ha.symm hv.symm hf, fun n u calls hrun hout hw => ?_⟩
  have hbound : a ∈ (s.called (.writeByte a v)).settled := mem_settledAfter.2 (.inr ⟨v, rfl, hf⟩)
  obtain ⟨hu, hread⟩ := runSteps_keeps_boundByte hrun hout hw hbound
  rw [advanced_mem, setMem_mem, Memory.read_write_same _ _ hm] at hread
  refine ⟨faults_of_settled hu, (answeredByte_of_settled hu).trans hread, fun rs' rt' imm16' he => ?_⟩
  rw [← hread]
  exact exec_lbu_of_settled hu he

/-! ## A store to the address of the next instruction (20_memory.md R54) -/

/-- Behind `FlatMem` a word call at an address and one four bytes on fault alike, whether they read or write. -/
theorem flatFaults_word_next (p : Params) (a v : Word) :
    Params.flatFaults p (.readWord (a + 4)) = Params.flatFaults p (.readWord a) ∧
      Params.flatFaults p (.writeWord (a + 4) v) = Params.flatFaults p (.readWord a) := by
  have h : (a + 4).toNat % 4 = a.toNat % 4 := by
    rw [BitVec.toNat_add, show (4 : Word).toNat = 4 from rfl]
    omega
  simp only [Params.flatFaults, h, and_self]

/-- Behind `FlatMem` the word fetched is the word of memory at `pc`. -/
theorem fetches_of_flat {s : State} {a w : Word} (hans : s.answers = []) (hpc : s.pc = a)
    (hf : Params.flatFaults s.params (.readWord a) = false) (hw : s.mem.readWord a = w) : s.fetches w := by
  subst hpc
  exact ⟨(faults_of_flat hans _).trans hf, (answeredWord_of_flat hans _).trans hw⟩

/-- Behind `FlatMem`, where a word read at `pc` would not fault, an `SW` to `pc + 4` outside a delay slot completes, and what it
stored is the next word fetched. -/
theorem exec_sw_next_fetches {s : State} {rs rt : RegId} {imm16 : BitVec 16} (hm : s.memoryCanonical) (hans : s.answers = [])
    (hd : s.delayPC = 0) (hf : Params.flatFaults s.params (.readWord s.pc) = false)
    (ha : effectiveAddress (s.getX rs) imm16 = s.pc + 4) :
    ∃ t, exec (.sw rs rt imm16) s = .next t ∧ t.pc = s.pc + 4 ∧ t.halt = s.halt ∧ t.fetches (lo32 (s.getX rt)) := by
  obtain ⟨hread, hwrite⟩ := flatFaults_word_next s.params s.pc (lo32 (s.getX rt))
  have hstore : s.faults (.writeWord (s.pc + 4) (lo32 (s.getX rt))) = false := by rw [faults_of_flat hans, hwrite, hf]
  refine ⟨_, exec_sw_of_answered ha hstore, if_pos hd, rfl,
    fetches_of_flat (congrArg List.tail hans) (if_pos hd) (hread.trans hf) (Memory.readWord_writeWord _ _ hm)⟩

/-- Settles O47: the fetch of the `SW` did not fault, so neither the store nor the next fetch does, and that fetch reads the word
just written. -/
theorem storeIsSeenByNextFetch : Obligations.StoreIsSeenByNextFetch := by
  intro s w rs rt imm16 hm hans hh hd hfetch hdec hea
  have hf : Params.flatFaults s.params (.readWord s.pc) = false := (faults_of_flat hans _).symm.trans hfetch.1
  have hflat : (s.called (.readWord s.pc)).answers = [] := congrArg List.tail hans
  obtain ⟨t, hexec, hpc, hhalt, hnext⟩ := exec_sw_next_fetches (s := s.called (.readWord s.pc)) (rt := rt) hm hflat hd hf hea
  refine ⟨t, ?_, hpc, hhalt.trans hh, by rw [ofInt_low]; exact hnext⟩
  rw [step_of_fetches hh hfetch, dispatchWord, hdec]
  exact hexec

end Sys2Proof.Machine
end

section
/-! Proofs of the statements of 30_encoding.md: the fields, the two round trips, and the opcode table. -/

namespace Sys2Proof

/-! ## Fields and examples -/

/-- Settles O2: every field is one extraction, whose bits the library gives. -/
theorem fieldsAreBitRanges : Obligations.FieldsAreBitRanges := by
  intro w k
  simp only [opcodeOf, rsOf, rtOf, rdOf, saOf, functOf, imm16Of, target26Of, BitVec.getLsbD_extractLsb', Nat.zero_add, and_self]

/-- Settles O1: the decoder is run on each word. -/
theorem decodesWordsOfSpec : Obligations.DecodesWordsOfSpec := by
  unfold Obligations.DecodesWordsOfSpec
  decide

/-! ## Decoding an encoded word, by format (30_encoding.md R62): a table entry that reads the fields reads the operands back -/

section Formats

variable {rs rt rd : RegId} {sa : BitVec 5} {imm16 : BitVec 16}

theorem decode_encodeR_of {funct : BitVec 6} {f : RegId → RegId → RegId → BitVec 5 → Instr}
    (h : ∀ w, decodeSpecial funct w = .ok (f (rsOf w) (rtOf w) (rdOf w) (saOf w))) :
    decode (encodeR funct rs rt rd sa) = .ok (f rs rt rd sa) := by
  rw [decode_encodeR, h, rsOf_encodeR, rtOf_encodeR, rdOf_encodeR, saOf_encodeR]

theorem decode_encodeCode_of {funct : BitVec 6} {code : BitVec 20} {f : BitVec 20 → Instr}
    (h : ∀ w, decodeSpecial funct w = .ok (f (codeOf w))) : decode (encodeCode funct code) = .ok (f code) := by
  rw [decode_encodeCode, h, codeOf_encodeCode]

theorem decode_encodeI_of {opcode : BitVec 6} {f : RegId → RegId → BitVec 16 → Instr}
    (h : ∀ w, decodePrimary opcode w = .ok (f (rsOf w) (rtOf w) (imm16Of w))) :
    decode (encodeI opcode rs rt imm16) = .ok (f rs rt imm16) := by
  rw [decode_encodeI, h, rsOf_encodeI, rtOf_encodeI, imm16Of_encodeI]

theorem decode_encodeJ_of {opcode : BitVec 6} {target26 : BitVec 26} {f : BitVec 26 → Instr}
    (h : ∀ w, decodePrimary opcode w = .ok (f (target26Of w))) : decode (encodeJ opcode target26) = .ok (f target26) := by
  rw [decode_encodeJ, h, target26Of_encodeJ]

theorem decode_encodeI_regimm_of {f : RegId → BitVec 16 → Instr}
    (h : ∀ w, decodeRegimm rt w = .ok (f (rsOf w) (imm16Of w))) : decode (encodeI 1 rs rt imm16) = .ok (f rs imm16) := by
  rw [decode_encodeI_regimm, h, rsOf_encodeI, imm16Of_encodeI]

theorem decode_encodeI_cop0_of {f : RegId → BitVec 16 → Instr}
    (h : ∀ w, decodeCop0 rs w = .ok (f (rtOf w) (imm16Of w))) : decode (encodeI 16 rs rt imm16) = .ok (f rt imm16) := by
  rw [decode_encodeI_cop0, h, rtOf_encodeI, imm16Of_encodeI]

theorem decode_encodeC0_of {low11 : BitVec 11} {f : RegId → RegId → BitVec 11 → Instr}
    (h : ∀ w, decodeCop0 rs w = .ok (f (rtOf w) (rdOf w) (low11Of w))) :
    decode (encodeC0 rs rt rd low11) = .ok (f rt rd low11) := by
  rw [decode_encodeC0, h, rtOf_encodeC0, rdOf_encodeC0, low11Of_encodeC0]

theorem decode_encodeCo_of {funct : BitVec 6} {co : BitVec 19} {f : BitVec 19 → Instr}
    (h : ∀ w, decodeCo funct w = .ok (f (coOf w))) : decode (encodeCo funct co) = .ok (f co) := by
  rw [decode_encodeCo, h, coOf_encodeCo]

end Formats

/-- Every instruction is read back from its word: its table entry reads exactly the fields its format writes. -/
theorem decode_encode (i : Instr) : decode (encode i) = .ok i := by
  cases i with
  | j | jal | cop1 | cop2 => exact decode_encodeJ_of fun _ => rfl
  | beq | bne | blez | bgtz | addi | addiu | slti | sltiu | andi | ori | xori | lui | beql | bnel | blezl | bgtzl | daddi
  | daddiu | ldl | ldr | lb | lh | lwl | lw | lbu | lhu | lwr | lwu | sb | sh | swl | sw | sdl | sdr | swr | cache | ll
  | lwc1 | lwc2 | lld | ldc1 | ldc2 | ld | sc | swc1 | swc2 | scd | sdc1 | sdc2 | sd => exact decode_encodeI_of fun _ => rfl
  | bltz | bgez | bltzl | bgezl | tgei | tgeiu | tlti | tltiu | teqi | tnei | bltzal | bgezal | bltzall | bgezall =>
    exact decode_encodeI_regimm_of fun _ => rfl
  | mfc0 | dmfc0 | mtc0 | dmtc0 => exact decode_encodeC0_of fun _ => rfl
  | bc0 => exact decode_encodeI_cop0_of fun _ => rfl
  | tlbr | tlbwi | tlbwr | tlbp | eret => exact decode_encodeCo_of fun _ => rfl
  | syscall | brk | sync => exact decode_encodeCode_of fun _ => rfl
  | _ => exact decode_encodeR_of fun _ => rfl

/-- The four bytes of a word, the one at the lowest address first, make up the word (20_memory.md R42). -/
theorem wordOfBytes_byteOfWord (w : Word) :
    wordOfBytes (byteOfWord w 0) (byteOfWord w 1) (byteOfWord w 2) (byteOfWord w 3) = w := by
  apply BitVec.eq_of_toNat_eq
  simp only [wordOfBytes, toNat_append_add, byteOfWord, BitVec.extractLsb'_toNat, Nat.shiftRight_eq_div_pow]
  have := w.isLt
  omega

/-- Settles O3: by the format of the instruction for words, and for bytes because they make up the word. -/
theorem decodeOfEncode : Obligations.DecodeOfEncode := by
  intro i rest
  refine ⟨decode_encode i, (decodeBytes_word (encode i) rest).trans ?_⟩
  rw [wordOfBytes_byteOfWord, decode_encode]; rfl

/-! ## Encoding a decoded word, by table (30_encoding.md R66 to R70): the index into the table and the fields read make up the word -/

section Tables

variable {w : Word}

theorem encodeR_of_fields {funct : BitVec 6} (ho : opcodeOf w = 0#6) (hf : functOf w = funct) :
    encodeR funct (rsOf w) (rtOf w) (rdOf w) (saOf w) = w := hf ▸ encodeR_fields w ho

theorem encodeCode_of_fields {funct : BitVec 6} (ho : opcodeOf w = 0#6) (hf : functOf w = funct) :
    encodeCode funct (codeOf w) = w := hf ▸ encodeCode_fields w ho

theorem encodeI_of_fields {opcode : BitVec 6} {rs rt : RegId} (ho : opcodeOf w = opcode) (hs : rsOf w = rs) (ht : rtOf w = rt) :
    encodeI opcode rs rt (imm16Of w) = w := ho ▸ hs ▸ ht ▸ encodeI_fields w

theorem encodeJ_of_fields {opcode : BitVec 6} (ho : opcodeOf w = opcode) : encodeJ opcode (target26Of w) = w :=
  ho ▸ encodeJ_fields w

theorem encodeC0_of_fields {rs : RegId} (ho : opcodeOf w = 16#6) (hs : rsOf w = rs) :
    encodeC0 rs (rtOf w) (rdOf w) (low11Of w) = w := hs ▸ encodeC0_fields w ho

theorem encodeCo_of_fields {funct : BitVec 6} (ho : opcodeOf w = 16#6) (hb : (rsOf w).getLsbD 4 = true)
    (hf : functOf w = funct) : encodeCo funct (coOf w) = w := hf ▸ encodeCo_fields w ho hb

variable {i : Instr}

/-- The entries of the SPECIAL table are of format R, but for the three with a code field. -/
theorem encode_of_decodeSpecial {funct : BitVec 6} (ho : opcodeOf w = 0#6) (hf : functOf w = funct)
    (h : decodeSpecial funct w = .ok i) : encode i = w := by
  unfold decodeSpecial at h
  split at h
  all_goals cases h
  all_goals simp only [encode, encodeR_of_fields, encodeCode_of_fields, ho, hf, BitVec.ofNat_eq_ofNat]

theorem encode_of_decodeRegimm {rt : RegId} (ho : opcodeOf w = 1#6) (ht : rtOf w = rt)
    (h : decodeRegimm rt w = .ok i) : encode i = w := by
  unfold decodeRegimm at h
  split at h
  all_goals cases h
  all_goals exact encodeI_of_fields ho rfl ht

theorem encode_of_decodeCo {funct : BitVec 6} (ho : opcodeOf w = 16#6) (hb : (rsOf w).getLsbD 4 = true)
    (hf : functOf w = funct) (h : decodeCo funct w = .ok i) : encode i = w := by
  unfold decodeCo at h
  split at h
  all_goals cases h
  all_goals exact encodeCo_of_fields ho hb hf

/-- Bit 25 marks the CO group; the other entries of the coprocessor-0 table are of format C0, but for `BC0`. -/
theorem encode_of_decodeCop0 {rs : RegId} (ho : opcodeOf w = 16#6) (hs : rsOf w = rs)
    (h : decodeCop0 rs w = .ok i) : encode i = w := by
  unfold decodeCop0 at h
  split at h
  next hb => exact encode_of_decodeCo ho (hs ▸ hb) rfl h
  next =>
    split at h
    all_goals cases h
    all_goals simp only [encode, encodeC0_of_fields, encodeI_of_fields, ho, hs, BitVec.ofNat_eq_ofNat]

/-- The primary table redirects three opcodes; its other entries are of format I or J. -/
theorem encode_of_decodePrimary {opcode : BitVec 6} (ho : opcodeOf w = opcode) (h : decodePrimary opcode w = .ok i) :
    encode i = w := by
  unfold decodePrimary at h
  split at h
  · exact encode_of_decodeSpecial ho rfl h
  · exact encode_of_decodeRegimm ho rfl h
  · exact encode_of_decodeCop0 ho rfl h
  all_goals cases h
  all_goals simp only [encode, encodeI_of_fields, encodeJ_of_fields, ho, BitVec.ofNat_eq_ofNat]

end Tables

/-- Settles O4: whichever table decodes the word, encoding puts back the table index and the fields read. -/
theorem encodeOfDecode : Obligations.EncodeOfDecode := fun _ _ h => encode_of_decodePrimary rfl h

/-! ## The opcode table (30_encoding.md R79) -/

/-- Every instruction has its row: the lemmas of the constructors, in their order. -/
theorem Laws.TableRow.statement (i : Instr) : Statement i :=
  Instr.casesOn i
    j jal beq bne blez bgtz addi addiu slti sltiu andi ori xori lui cop1 cop2 beql bnel blezl bgtzl daddi daddiu ldl
    ldr lb lh lwl lw lbu lhu lwr lwu sb sh swl sw sdl sdr swr cache ll lwc1 lwc2 lld ldc1 ldc2 ld sc swc1 swc2 scd
    sdc1 sdc2 sd sll srl sra sllv srlv srav jr jalr syscall brk sync mfhi mthi mflo mtlo dsllv dsrlv dsrav mult multu
    div divu dmult dmultu ddiv ddivu add addu sub subu and or xor nor slt sltu dadd daddu dsub dsubu tge tgeu tlt tltu
    teq tne dsll dsrl dsra dsll32 dsrl32 dsra32 bltz bgez bltzl bgezl tgei tgeiu tlti tltiu teqi tnei bltzal bgezal
    bltzall bgezall mfc0 dmfc0 mtc0 dmtc0 bc0 tlbr tlbwi tlbwr tlbp eret

theorem TableRow.selects_iff {r : TableRow} {w : Word} : r.selects w = true ↔ w &&& r.mask = r.pattern := beq_iff_eq

/-- One table of the decoder, whose rows share a mask. If the pattern of each row holds the row's index into the table, a word that the
row selects is decoded by the entry at that index, and that entry has the row's mnemonic. -/
theorem decode_mnemonic_of_rows {n : Nat} {rows : List TableRow} {mask : Word} (index : Word → BitVec n)
    (pattern : BitVec n → Word) {entry : BitVec n → Word → Except DecodeError Instr}
    (hentry : ∀ w k, w &&& mask = pattern k → decode w = entry k w)
    (hrows : ∀ r ∈ rows, r.mask = mask ∧ r.pattern = pattern (index r.pattern))
    (hnames : ∀ w, rows.map (fun r => (entry (index r.pattern) w).map Instr.mnemonic) = rows.map fun r => .ok r.mnemonic)
    {w : Word} {r : TableRow} (hr : r ∈ rows) (hs : r.selects w = true) :
    (decode w).map Instr.mnemonic = .ok r.mnemonic := by
  obtain ⟨hmask, hpattern⟩ := hrows r hr
  rw [hentry w _ (hmask ▸ (TableRow.selects_iff.1 hs).trans hpattern)]
  exact List.map_inj_left.1 (hnames w) r hr

section Rows

variable {w : Word} {r : TableRow}

theorem decode_mnemonic_of_selects (hr : r ∈ opcodeTable) (hs : r.selects w = true) :
    (decode w).map Instr.mnemonic = .ok r.mnemonic := by
  simp only [opcodeTable, List.mem_append] at hr
  obtain (((hr | hr) | hr) | hr) | hr := hr
  · exact decode_mnemonic_of_rows opcodeOf (fun op => op ++ 0#26) (fun _ _ h => decode_of_primary h)
      (by decide) (fun _ => rfl) hr hs
  · exact decode_mnemonic_of_rows functOf (fun f => 0#6 ++ 0#20 ++ f) (fun _ _ h => decode_of_special h)
      (by decide) (fun _ => rfl) hr hs
  · exact decode_mnemonic_of_rows rtOf (fun rt => 1#6 ++ 0#5 ++ rt ++ 0#16) (fun _ _ h => decode_of_regimm h)
      (by decide) (fun _ => rfl) hr hs
  · exact decode_mnemonic_of_rows rsOf (fun rs => 16#6 ++ rs ++ 0#21) (fun _ _ h => decode_of_cop0 h)
      (by decide) (fun _ => rfl) hr hs
  · exact decode_mnemonic_of_rows functOf (fun f => 16#6 ++ BitVec.ofBool true ++ 0#19 ++ f) (fun _ _ h => decode_of_co h)
      (by decide) (fun _ => rfl) hr hs

/-- The mask of the rows that can select a word, by the table that decodes the word (R66 to R70). -/
def tableMask (w : Word) : Word :=
  if opcodeOf w = 0 then 0xFC00003F
  else if opcodeOf w = 1 then 0xFC1F0000
  else if opcodeOf w = 16 then if (rsOf w).getLsbD 4 then 0xFE00003F else 0xFFE00000
  else 0xFC000000

/-- A row has the mask of its table, which keeps the opcode and, for coprocessor 0, bit 25. -/
theorem mask_of_row : ∀ r ∈ opcodeTable, tableMask r.pattern = r.mask ∧ opcodeOf r.mask = BitVec.allOnes 6 ∧
    (opcodeOf r.pattern = 16 → (rsOf r.mask).getLsbD 4 = true) := by
  simp only [opcodeTable, List.forall_mem_append]
  refine ⟨⟨⟨⟨?_, ?_⟩, ?_⟩, ?_⟩, ?_⟩ <;> decide

/-- Which table decodes a word is seen in the bits that every mask of the table keeps. -/
theorem tableMask_of_selects (hr : r ∈ opcodeTable) (hs : r.selects w = true) : tableMask w = r.mask := by
  obtain ⟨hmask, hopcode, hbit⟩ := mask_of_row r hr
  rw [TableRow.selects_iff] at hs
  have ho : opcodeOf r.pattern = opcodeOf w := by
    rw [← hs, opcodeOf, BitVec.extractLsb'_and, ← opcodeOf, ← opcodeOf, hopcode, BitVec.and_allOnes]
  have hb : opcodeOf w = 16 → (rsOf r.pattern).getLsbD 4 = (rsOf w).getLsbD 4 := by
    intro h
    rw [← hs, rsOf, BitVec.extractLsb'_and, BitVec.getLsbD_and, ← rsOf, ← rsOf, hbit (ho.trans h), Bool.and_true]
  rw [← hmask, tableMask, tableMask, ho]
  by_cases h : opcodeOf w = 16
  · rw [hb h]
  · simp only [if_neg h]

/-- The word fixes the mask, hence the pattern, and what it decodes to fixes the mnemonic. -/
theorem row_unique {q : TableRow} (hr : r ∈ opcodeTable) (hq : q ∈ opcodeTable) (hsr : r.selects w = true)
    (hsq : q.selects w = true) : r = q := by
  have hmask : r.mask = q.mask := (tableMask_of_selects hr hsr).symm.trans (tableMask_of_selects hq hsq)
  have hname : r.mnemonic = q.mnemonic :=
    Except.ok.inj ((decode_mnemonic_of_selects hr hsr).symm.trans (decode_mnemonic_of_selects hq hsq))
  have hpattern : r.pattern = q.pattern := by rw [← TableRow.selects_iff.1 hsr, ← TableRow.selects_iff.1 hsq, hmask]
  exact congr (congr (congrArg TableRow.mk hname) hmask) hpattern

end Rows

/-- Settles O5: rows to instructions by the decoder's tables, instructions to rows by their encoding, one row by its mask. -/
theorem decodeFollowsOpcodeTable : Obligations.DecodeFollowsOpcodeTable := by
  refine ⟨rfl, fun w => ⟨fun r hr hs => ?_, fun i hi => ?_, fun r hr q hq => row_unique hr hq⟩⟩
  · have hname := decode_mnemonic_of_selects hr hs
    cases hd : decode w with
    | ok i => exact ⟨i, rfl, Except.ok.inj (hd ▸ hname)⟩
    | error e => rw [hd] at hname; cases hname
  · obtain ⟨r, hr, hname, hs⟩ := Laws.TableRow.statement i
    exact ⟨r, hr, hname, encodeOfDecode w i hi ▸ hs⟩

end Sys2Proof
end

section
/-! Proofs of the statements of 40_step_and_dispatch.md: the fetch, the PC update and the counter of a step, what is refused,
and the transactions of the host. -/

namespace Sys2Proof.Machine

/-! ## A step is a fetch and an instruction (40_step_and_dispatch.md R90 to R92) -/

theorem step_of_decoded {s : State} {w : Word} {i : Instr} (hh : s.halt = false) (hf : s.fetches w) (hd : decode w = .ok i) :
    step s = exec i (s.called (.readWord s.pc)) := by
  rw [step_of_fetches hh hf, dispatchWord, hd]

/-- Settles O7: the fetch is answered, and dispatch runs what the word decodes to. -/
theorem stepRunsDecodedInstruction : Obligations.StepRunsDecodedInstruction := fun _ _ _ => step_of_decoded

/-- Settles O8: the two answers to the fetch. -/
theorem fetchIsOneReadWord : Obligations.FetchIsOneReadWord := fun _ hh =>
  ⟨step_of_fetchFault hh, fun hf => step_of_fetches hh ⟨hf, rfl⟩⟩

/-- A step that retires ran the instruction at `pc`: a fault on the fetch and a reserved word halt the core. -/
theorem exec_of_step_retired {s t : State} (hh : s.halt = false) (h : step s = .next t) (ht : t.halt = false) :
    ∃ i, decode (s.answeredWord s.pc) = .ok i ∧ exec i (s.called (.readWord s.pc)) = .next t := by
  have hr := h ▸ step_stepped s
  cases hr with
  | halted hh' => exact absurd (hh.symm.trans hh') Bool.false_ne_true
  | fetchFault | reserved => cases ht
  | ran w i _ _ hf hd he => exact ⟨i, by rw [hf.2, hd], he.symm⟩

/-! ## Likely branches: which of them annul their slot (40_step_and_dispatch.md R96) -/

theorem shapeOf_of_annulsSlot {i : Instr} {s : State} (h : annulsSlot i s) : shapeOf i = .likelyTransfer := by
  cases i with
  | beql | bnel | blezl | bgtzl | bltzl | bgezl => rfl
  | _ => cases h

/-- The condition of a likely branch is false exactly where the branch annuls its slot. -/
theorem exec_likely {i : Instr} (hi : shapeOf i = .likelyTransfer) (s : State) :
    ∃ c t, exec i s = branchLikely c (encode i) t s ∧ (c = false ↔ annulsSlot i s) := by
  cases i with
  | beql => exact ⟨_, _, rfl, by simp [condEq_eq, annulsSlot]⟩
  | bnel => exact ⟨_, _, rfl, by simp [condNe_eq, annulsSlot]⟩
  | blezl => exact ⟨_, _, rfl, by simp [condLez_eq, annulsSlot]⟩
  | bgtzl => exact ⟨_, _, rfl, by simp [condGtz_eq, annulsSlot]⟩
  | bltzl => exact ⟨_, _, rfl, by simp [condLtz_eq, annulsSlot]⟩
  | bgezl => exact ⟨_, _, rfl, by simp [condGez_eq, annulsSlot]⟩
  | _ => cases hi

theorem exec_of_annulsSlot {i : Instr} {s : State} (h : annulsSlot i s) (hd : s.delayPC = 0) :
    exec i s = .next s.annulled := by
  obtain ⟨c, t, he, hc⟩ := exec_likely (shapeOf_of_annulsSlot h) s
  rw [he, branchLikely_eq, if_neg (not_not.2 hd), if_pos (hc.2 h)]

/-- A likely branch that does not annul its slot is taken: it raises `InvalidBranchTarget`, or advances with its target
pending. -/
theorem exec_likely_pc_of_not_annulsSlot {i : Instr} {s t : State} (hi : shapeOf i = .likelyTransfer)
    (hn : ¬ annulsSlot i s) (hd : s.delayPC = 0) (h : exec i s = .next t) (ht : t.halt = false) : t.pc = s.pc + 4 := by
  obtain ⟨c, target, he, hc⟩ := exec_likely hi s
  rw [he, branchLikely_eq, if_neg (not_not.2 hd), if_neg (mt hc.1 hn)] at h
  split at h
  · cases h; cases ht
  · cases h; rfl

/-! ## The PC update and the counter (40_step_and_dispatch.md R93 to R96) -/

/-- In a delay slot a retired instruction makes the pending transfer, whatever it is. -/
theorem exec_pc_in_slot {i : Instr} {s t : State} (h : exec i s = .next t) (ht : t.halt = false) (hd : s.delayPC ≠ 0) :
    t.pc = s.delayPC ∧ t.delayPC = 0 := by
  have hr := h ▸ exec_ran i s
  cases hr with
  | scheduled _ _ hd' | linkScheduled _ _ hd' => exact absurd hd' hd
  | annulled _ hd' => exact absurd hd' hd
  | unimplemented | invalidTarget | linkInvalidTarget | portFault => cases ht
  | _ => exact ⟨if_neg hd, rfl⟩

/-- Outside a delay slot a retired instruction that does not annul its slot advances, and only a transfer leaves a target. -/
theorem exec_pc_out_of_slot {i : Instr} {s t : State} (h : exec i s = .next t) (ht : t.halt = false) (hd : s.delayPC = 0)
    (hn : ¬ annulsSlot i s) :
    t.pc = s.pc + 4 ∧
      (t.delayPC = 0 ∨ shapeOf i = .transfer ∨ shapeOf i = .likelyTransfer ∨ shapeOf i = .linkTransfer) := by
  have hr := h ▸ exec_ran i s
  cases hr with
  | scheduled _ hi => exact ⟨rfl, .inr (hi.imp_right .inl)⟩
  | linkScheduled _ hi => exact ⟨rfl, .inr (.inr (.inr hi))⟩
  | annulled hi => exact ⟨exec_likely_pc_of_not_annulsSlot hi hn hd h ht, .inr (.inr (.inl hi))⟩
  | unimplemented | invalidTarget | linkInvalidTarget | portFault => cases ht
  | _ => exact ⟨if_pos hd, .inl rfl⟩

/-- Settles O9: a retired step is a retired instruction, which either stands in a delay slot, or annuls its own, or advances. -/
theorem pcFollowsDelaySlotRule : Obligations.PcFollowsDelaySlotRule := by
  intro s t hh h ht
  obtain ⟨i, hi, he⟩ := exec_of_step_retired hh h ht
  refine ⟨i, hi, exec_pc_in_slot (s := s.called _) he ht, fun hd ha => ?_, exec_pc_out_of_slot (s := s.called _) he ht⟩
  rw [exec_of_annulsSlot (s := s.called _) ha hd] at he
  cases he
  exact ⟨rfl, hd⟩

/-- An instruction is counted unless it faults. -/
theorem exec_opsExecuted {i : Instr} {s t : State} (hh : s.halt = false) (h : exec i s = .next t) :
    t.opsExecuted = if t.halt then s.opsExecuted else s.opsExecuted + 1 := by
  have hr := h ▸ exec_ran i s
  cases hr with
  | unimplemented | invalidTarget | linkInvalidTarget | portFault => rfl
  | _ => exact (if_neg (ne_true_of_eq_false hh)).symm

/-- Settles O10: neither a fault on the fetch nor a reserved word is counted, and an instruction is unless it faults. -/
theorem counterCountsRetiredSteps : Obligations.CounterCountsRetiredSteps := by
  intro s t hh h
  have hr := h ▸ step_stepped s
  cases hr with
  | halted hh' => exact absurd (hh.symm.trans hh') Bool.false_ne_true
  | fetchFault | reserved => rfl
  | ran _ _ _ _ _ _ he => exact exec_opsExecuted (s := s.called _) hh he.symm

/-! ## What is refused (40_step_and_dispatch.md R98, 43_branch_jump.md R152) -/

theorem exec_refused {i : Instr} {s : State} {r : Refusal} (h : exec i s = .refused r) :
    (r = .controlTransferInDelaySlot ∧ s.delayPC ≠ 0) ∨ (r = .linkRegisterTested ∧ i.wellFormed = false) := by
  have hr := h ▸ exec_ran i s
  cases hr with
  | inDelaySlot _ hd => exact .inl ⟨rfl, hd⟩
  | linkRegisterTested hw => exact .inr ⟨rfl, hw⟩

theorem step_refused {s : State} {r : Refusal} (h : step s = .refused r) :
    (r = .controlTransferInDelaySlot ∧ s.delayPC ≠ 0) ∨
      (r = .linkRegisterTested ∧ ∃ i, decode (s.answeredWord s.pc) = .ok i ∧ i.wellFormed = false) := by
  have hr := h ▸ step_stepped s
  cases hr with
  | ran w i _ _ hf hd he =>
    exact (exec_refused he.symm).imp_right fun ⟨hr, hw⟩ => ⟨hr, i, by rw [hf.2, hd], hw⟩

/-- Settles O37: an outcome that is no next state is one of the two refusals. -/
theorem completesOutsideDelaySlot : Obligations.CompletesOutsideDelaySlot := by
  refine ⟨fun i s hd hw => ?_, fun s => ?_⟩
  · cases h : exec i s with
    | next t => exact ⟨t, rfl⟩
    | fault f => cases f
    | refused r =>
      obtain ⟨-, hd'⟩ | ⟨-, hw'⟩ := exec_refused h
      · exact absurd hd hd'
      · rw [hw] at hw'; cases hw'
  · cases h : step s with
    | next t => exact .inl ⟨t, rfl⟩
    | fault f => cases f
    | refused r =>
      obtain ⟨rfl, hd⟩ | ⟨rfl, hi⟩ := step_refused h
      · exact .inr (.inl ⟨rfl, hd⟩)
      · exact .inr (.inr ⟨rfl, hi⟩)

section InSlot

variable {s0 s : State} {w t : Word} {c : Bool} (hd : s0.delayPC ≠ 0)

include hd

theorem scheduleBranch_in_slot : scheduleBranch w t s0 s = .refused .controlTransferInDelaySlot := if_pos hd

theorem branchIf_in_slot {p : Prop} [Decidable p] (hc : c = decide p) (hp : p) :
    branchIf c w t s0 s = .refused .controlTransferInDelaySlot := by
  rw [hc, decide_eq_true hp]
  exact scheduleBranch_in_slot hd

theorem branchLikely_in_slot : branchLikely c w t s0 = .refused .controlTransferInDelaySlot := by
  rw [branchLikely_eq, if_pos hd]

end InSlot

/-- Settles O36: a pending target is looked at before anything else of a transfer, the link register before that. -/
theorem refusedSituations : Obligations.RefusedSituations := by
  refine ⟨fun s rs rt rd sa imm16 target26 hd => ?_, fun _ _ => ⟨rfl, rfl⟩⟩
  exact ⟨scheduleBranch_in_slot hd, scheduleBranch_in_slot hd, scheduleBranch_in_slot hd,
    branchIf_in_slot hd (condEq_eq ..), branchIf_in_slot hd (condNe_eq ..), branchIf_in_slot hd (condLez_eq _),
    branchIf_in_slot hd (condGtz_eq _), branchIf_in_slot hd (condLtz_eq _), branchIf_in_slot hd (condGez_eq _),
    fun hr hc => (if_neg hr).trans (branchIf_in_slot hd (condLtz_eq _) hc),
    fun hr hc => (if_neg hr).trans (branchIf_in_slot hd (condGez_eq _) hc),
    branchLikely_in_slot hd, branchLikely_in_slot hd, branchLikely_in_slot hd, branchLikely_in_slot hd,
    branchLikely_in_slot hd, branchLikely_in_slot hd⟩

/-! ## Transfers that schedule their target (40_step_and_dispatch.md R95) -/

theorem schedules_of_exec_eq {i : Instr} {condition : State → Prop} {pre : State → State} {target : State → Word}
    (hpc : ∀ s, (pre s).pc = s.pc) (hparams : ∀ s, (pre s).params = s.params)
    (he : ∀ s, condition s → exec i s = scheduleBranch (encode i) (target s) s (pre s)) :
    Schedules i condition pre target := by
  intro s hc hd
  rw [he s hc, scheduleBranch_eq (hpc s), hparams, if_neg (not_not.2 hd)]
  exact ⟨fun hi => if_neg (ne_true_of_eq_false hi), fun hi => if_pos hi⟩

theorem schedules_j (target26 : BitVec 26) :
    Schedules (.j target26) (fun _ => True) (fun s => s) (fun s => jumpAddress s.pc target26) :=
  schedules_of_exec_eq (fun _ => rfl) (fun _ => rfl) fun s _ => by rw [← jumpTarget_eq]; rfl

theorem schedules_jal (target26 : BitVec 26) :
    Schedules (.jal target26) (fun _ => True) linked (fun s => jumpAddress s.pc target26) :=
  schedules_of_exec_eq (fun _ => rfl) (fun _ => rfl) fun s _ => by rw [← jumpTarget_eq, ← link_eq_linked]; rfl

theorem schedules_jr (rs rt rd : RegId) (sa : BitVec 5) :
    Schedules (.jr rs rt rd sa) (fun _ => True) (fun s => s) (fun s => BitVec.ofInt 32 (low (s.getX rs))) :=
  schedules_of_exec_eq (fun _ => rfl) (fun _ => rfl) fun _ _ => by rw [ofInt_low]; rfl

theorem schedules_beq (rs rt : RegId) (imm16 : BitVec 16) :
    Schedules (.beq rs rt imm16) (fun s => s.getX rs = s.getX rt) (fun s => s) (fun s => branchAddress s.pc imm16) :=
  schedules_of_exec_eq (fun _ => rfl) (fun _ => rfl) fun s hc => by
    have htaken : condEq (s.getX rs) (s.getX rt) = true := by rw [condEq_eq, decide_eq_true hc]
    rw [← branchTarget_eq]
    exact congrArg (branchIf · _ _ s s) htaken

/-- A scheduled target of 0 is no target: the latch cannot tell the two apart (40_step_and_dispatch.md R97, decision D15). -/
theorem scheduled_zero {s : State} (hd : s.delayPC = 0) : s.scheduled 0 = s.advanced := by
  simp [State.scheduled, State.advanced, hd]

theorem exec_of_schedules_zero {i : Instr} {condition : State → Prop} {pre : State → State} {target : State → Word}
    {s : State} (h : Schedules i condition pre target) (hc : condition s) (hd : s.delayPC = 0) (hpre : (pre s).delayPC = s.delayPC)
    (hi : Params.invalidTarget s.params 0 = false) (hz : target s = 0) : exec i s = .next (pre s).advanced := by
  rw [(h s hc hd).1 (hz ▸ hi), hz, scheduled_zero (hpre.trans hd)]

/-- Settles O39: each of the four schedules its target, and a scheduled 0 leaves the state that only advances. -/
theorem targetZeroIsLost : Obligations.TargetZeroIsLost := fun _ hd hi =>
  ⟨fun target26 hz => ⟨exec_of_schedules_zero (schedules_j target26) trivial hd rfl hi hz,
      exec_of_schedules_zero (schedules_jal target26) trivial hd rfl hi hz⟩,
    fun rs rt rd sa hz =>
      exec_of_schedules_zero (schedules_jr rs rt rd sa) trivial hd rfl hi (congrArg (BitVec.ofInt 32) hz),
    fun rs rt imm16 hc hz => exec_of_schedules_zero (schedules_beq rs rt imm16) hc hd rfl hi hz⟩

/-- Settles O38: the first step schedules the target, and a retired step in the slot makes the transfer by the delay-slot rule;
a likely branch not taken annuls. -/
theorem jumpTakesEffectAfterSlot : Obligations.JumpTakesEffectAfterSlot := by
  refine ⟨fun s i target hh hd hf hdec hi hz hvalid => ?_, fun s rs rt imm16 hh hd hf hdec hne => ?_⟩
  · have hexec : ∃ u : State,
        exec i (s.called (.readWord s.pc)) = .next (u.scheduled target) ∧ u.pc = s.pc ∧ u.halt = s.halt := by
      obtain ⟨target26, rfl | rfl, rfl⟩ | ⟨rs, rt, rd, sa, rfl, rfl⟩ := hi
      · exact ⟨_, (schedules_j target26 (s.called _) trivial hd).1 hvalid, rfl, rfl⟩
      · exact ⟨_, (schedules_jal target26 (s.called _) trivial hd).1 hvalid, rfl, rfl⟩
      · exact ⟨_, (schedules_jr rs rt rd sa (s.called _) trivial hd).1 hvalid, rfl, rfl⟩
    obtain ⟨u, he, hpc, hhalt⟩ := hexec
    have ht : (u.scheduled target).halt = false := hhalt.trans hh
    refine ⟨_, (step_of_decoded hh ⟨hf, rfl⟩ hdec).trans he, by rw [scheduled_pc, hpc], rfl, ht, fun v hv hvh => ?_⟩
    obtain ⟨_, -, hslot, -⟩ := pcFollowsDelaySlotRule _ v ht hv hvh
    exact hslot hz
  · have he := exec_of_annulsSlot (i := .beql rs rt imm16) (s := s.called (.readWord s.pc)) hne hd
    exact ⟨_, (step_of_decoded hh ⟨hf, rfl⟩ hdec).trans he, rfl, rfl, hh, rfl⟩

/-! ## The loop of `run` (40_step_and_dispatch.md R101, R104) -/

theorem requestHalt_of_halt {s : State} (h : s.halt = true) : s.requestHalt = s :=
  congrArg (fun b => { s with halt := b }) h.symm

/-- The loop leaves a halted core as it is, also where a halt request arrives. -/
theorem runLoop_of_halt (n : Nat) (request : Option Nat) {s : State} (h : s.halt = true) : runLoop n request s = .next s := by
  cases n <;> simp [runLoop, requestHalt_of_halt h, h]

/-- A turn of the loop before which no halt request has arrived is a step of the core. -/
theorem runLoop_succ {n : Nat} {request : Option Nat} (hr : request ≠ some 0) (s : State) :
    runLoop (n + 1) request s =
      match step s with
      | .next t => runLoop n (request.map fun k => k - 1) t
      | .fault r => .fault r
      | .refused r => .refused r := by
  rw [runLoop, if_neg hr]
  split
  · next h => rw [step_of_halt h]; exact (runLoop_of_halt _ _ h).symm
  · rfl

/-- A halt request that does not arrive within the budget is without effect. -/
theorem runLoop_eq_runSteps {n : Nat} {request : Option Nat} (hr : ∀ k, request = some k → n < k) (s : State) :
    runLoop n request s = runSteps n s := by
  induction n generalizing request s with
  | zero => exact congrArg Host.Outcome.next (if_neg fun h => absurd (hr 0 h) (Nat.lt_irrefl 0))
  | succ n ih =>
    have hlater : ∀ k, (request.map fun k => k - 1) = some k → n < k := by
      intro k hk
      obtain ⟨j, hj, rfl⟩ := Option.map_eq_some_iff.1 hk
      have := hr j hj
      omega
    rw [runLoop_succ (fun h => absurd (hr 0 h) (Nat.not_lt_zero _)), runSteps_succ]
    cases step s with
    | next t => exact ih hlater t
    | fault r => rfl
    | refused r => rfl

/-- A halt request that arrives within the budget ends the loop at its boundary. -/
theorem runLoop_eq_requestHalt {n k : Nat} (hk : k ≤ n) (s : State) :
    runLoop n (some k) s = mapNext State.requestHalt (runSteps k s) := by
  induction k generalizing n s with
  | zero => cases n <;> rfl
  | succ k ih =>
    obtain ⟨n, rfl⟩ := Nat.exists_eq_succ_of_ne_zero (Nat.ne_zero_of_lt hk)
    rw [runLoop_succ (by simp), runSteps_succ]
    cases step s with
    | next t => exact ih (Nat.le_of_succ_le_succ hk) t
    | fault r => rfl
    | refused r => rfl

/-! ## The transactions of the host (40_step_and_dispatch.md R100 to R105) -/

theorem hostRun_eq (n : Nat) (request : Option Nat) (s : State) :
    hostRun n request s = mapNext State.pulseRefresh (runLoop n request { s with halt := false }) := by
  unfold hostRun
  cases runLoop n request { s with halt := false } <;> rfl

theorem runSteps_one (s : State) : runSteps 1 s = step s := by
  rw [runSteps_succ]
  cases step s <;> rfl

/-- Settles O20: without a request the loop is the steps. -/
theorem runIsStepsThenRefresh : Obligations.RunIsStepsThenRefresh :=
  ⟨fun _ => step_of_halt, fun n s => by rw [hostRun_eq, runLoop_eq_runSteps (request := none) nofun]⟩

/-- Settles O21: a run of one step is one step, and no step and no write of `halt` pulses. -/
theorem oneRefreshPerTransaction : Obligations.OneRefreshPerTransaction := by
  refine ⟨fun s => ⟨rfl, ?_⟩, fun n request s t h => ?_⟩
  · rw [hostStep, runIsStepsThenRefresh.2, runSteps_one]
  · rw [hostRun_eq] at h
    cases hl : runLoop n request { s with halt := false } with
    | next u =>
      have hu : u.out.refreshPulses = s.out.refreshPulses :=
        runLoop_invariant (s := { s with halt := false }) (P := fun v => v.out.refreshPulses = s.out.refreshPulses)
          (fun _ _ hv hs => (step_keeps_params hs).2.trans hv) (fun _ _ hv => hv) n request rfl hl
      rw [hl] at h
      cases h
      exact congrArg (· + 1) hu
    | fault r => cases r
    | refused r => rw [hl] at h; cases h

/-- Settles O22: the request arrives within the budget or it does not; a run clears the `halt` of an earlier one. -/
theorem haltRequestStopsAtBoundary : Obligations.HaltRequestStopsAtBoundary := by
  refine ⟨fun n k s => ?_, fun n request s => ⟨rfl, rfl⟩⟩
  split
  · next hk => exact runLoop_eq_requestHalt hk s
  · next hk => exact runLoop_eq_runSteps (fun j hj => Option.some.inj hj ▸ Nat.lt_of_not_le hk) s

/-- Settles O23: each field is zeroed or left by the record that `reset()` writes. -/
theorem resetTransactionZeroes : Obligations.ResetTransactionZeroes := fun s =>
  ⟨rfl, hostReset_getX s, hostReset_getC0 s, rfl, rfl, rfl, rfl, rfl, rfl, rfl, rfl, rfl, rfl, rfl⟩

end Sys2Proof.Machine
end

section
/-! Proofs of the statements of 41_alu.md: the rows that select the instructions, the values they write, the rows that fault, and
what an instruction leaves unchanged. -/

namespace Sys2Proof.Machine

/-! ## The words a row selects, by table (30_encoding.md R66 to R70): the row's pattern is its index into the table -/

theorem selects_primary (op : BitVec 6) {f : Word → Instr} (h : ∀ w, decodePrimary op w = .ok (f w)) :
    Selects 0xFC000000 (op ++ 0#26) f := fun w hw => (decode_of_primary hw).trans (h w)

theorem selects_special (funct : BitVec 6) {f : Word → Instr} (h : ∀ w, decodeSpecial funct w = .ok (f w)) :
    Selects 0xFC00003F (0#6 ++ 0#20 ++ funct) f := fun w hw => (decode_of_special hw).trans (h w)

theorem selects_regimm (rt : RegId) {f : Word → Instr} (h : ∀ w, decodeRegimm rt w = .ok (f w)) :
    Selects 0xFC1F0000 (1#6 ++ 0#5 ++ rt ++ 0#16) f := fun w hw => (decode_of_regimm hw).trans (h w)

theorem selects_cop0 (rs : RegId) {f : Word → Instr} (h : ∀ w, decodeCop0 rs w = .ok (f w)) :
    Selects 0xFFE00000 (16#6 ++ rs ++ 0#21) f := fun w hw => (decode_of_cop0 hw).trans (h w)

theorem selects_co (funct : BitVec 6) {f : Word → Instr} (h : ∀ w, decodeCo funct w = .ok (f w)) :
    Selects 0xFE00003F (16#6 ++ BitVec.ofBool true ++ 0#19 ++ funct) f := fun w hw => (decode_of_co hw).trans (h w)

/-! ## The values written, on integers (41_alu.md R110, R137) -/

theorem sext64_add (a b : DWord) : sext64 (lo32 a + lo32 b) = signed32Result (low a + low b) := by
  rw [lo32_add, sext64_ofInt]

theorem sext64_sub (a b : DWord) : sext64 (lo32 a - lo32 b) = signed32Result (low a - low b) := by
  rw [lo32_sub, sext64_ofInt]

theorem sext64_add_imm (a : DWord) (imm16 : BitVec 16) :
    sext64 (lo32 a + immSext32 imm16) = signed32Result (low a + imm16.toInt) := by
  rw [lo32_add_imm, sext64_ofInt]

section Shifts

variable {amount : BitVec 5} {k : Nat} (hk : amount.toNat = k) (v : DWord)

include hk

theorem sext64_shiftLeft : sext64 (lo32 v <<< amount.toNat) = signed32Result (low v * 2 ^ k) := by
  rw [hk, lo32_shiftLeft, sext64_ofInt]

theorem sext64_shiftRight : sext64 (lo32 v >>> amount.toNat) = signed32Result (low v / 2 ^ k) := by
  rw [hk, lo32_shiftRight, sext64_ofInt]

theorem sext64_sshiftRight : sext64 ((lo32 v).sshiftRight amount.toNat) = signed32Result (lowSigned v / 2 ^ k) := by
  rw [hk, lo32_sshiftRight, sext64_ofInt]

end Shifts

/-! ## Instructions that write one register -/

/-- An instruction whose handler writes `x[r]` and returns ends in that write, advanced; `v'` is another form of the value. -/
theorem exec_of_finish_setX {i : Instr} {s : State} {r : RegId} {v v' : DWord} (he : exec i s = finish s (s.setX r v))
    (hv : v = v') : exec i s = .next (s.setX r v').advanced := by
  rw [he, finish_setX, hv]

/-- Settles O24: a sum or difference of words is the sum or difference of integers mod 2^32. -/
theorem addSubtractLowHalves : Obligations.AddSubtractLowHalves :=
  ⟨selects_special 0x20 fun _ => rfl, selects_special 0x21 fun _ => rfl, selects_special 0x22 fun _ => rfl,
    selects_special 0x23 fun _ => rfl, selects_primary 0x08 fun _ => rfl, selects_primary 0x09 fun _ => rfl,
    fun _ _ _ _ imm16 _ =>
      ⟨exec_of_finish_setX rfl (sext64_add ..), exec_of_finish_setX rfl (sext64_add ..),
        exec_of_finish_setX rfl (sext64_sub ..), exec_of_finish_setX rfl (sext64_sub ..),
        exec_of_finish_setX rfl (sext64_add_imm _ imm16), exec_of_finish_setX rfl (sext64_add_imm _ imm16)⟩⟩

/-- Settles O25: the meanings are the bitwise operations, and an immediate is extended by zeros. -/
theorem logicalOnAllBits : Obligations.LogicalOnAllBits :=
  ⟨selects_special 0x24 fun _ => rfl, selects_special 0x25 fun _ => rfl, selects_special 0x26 fun _ => rfl,
    selects_primary 0x0C fun _ => rfl, selects_primary 0x0D fun _ => rfl, selects_primary 0x0E fun _ => rfl,
    fun rs _ _ _ imm16 s =>
      ⟨exec_of_finish_setX rfl rfl, exec_of_finish_setX rfl rfl, exec_of_finish_setX rfl rfl,
        exec_of_finish_setX rfl (congrArg (s.getX rs &&& ·) (immZext64_eq imm16)),
        exec_of_finish_setX rfl (congrArg (s.getX rs ||| ·) (immZext64_eq imm16)),
        exec_of_finish_setX rfl (congrArg (s.getX rs ^^^ ·) (immZext64_eq imm16))⟩⟩

/-- Settles O26: a shift of a word is a product or a quotient by a power of two, and a variable amount is `x[rs]` mod 32. -/
theorem shiftsOfLowHalf : Obligations.ShiftsOfLowHalf :=
  ⟨selects_special 0x00 fun _ => rfl, selects_special 0x02 fun _ => rfl, selects_special 0x03 fun _ => rfl,
    selects_special 0x04 fun _ => rfl, selects_special 0x06 fun _ => rfl, selects_special 0x07 fun _ => rfl,
    fun rs _ _ _ s =>
      have hv : (shiftAmount (s.getX rs)).toNat = (s.getX rs).toNat % 32 := shiftAmount_toNat _
      ⟨exec_of_finish_setX rfl (sext64_shiftLeft rfl _), exec_of_finish_setX rfl (sext64_shiftRight rfl _),
        exec_of_finish_setX rfl (sext64_sshiftRight rfl _), exec_of_finish_setX rfl (sext64_shiftLeft hv _),
        exec_of_finish_setX rfl (sext64_shiftRight hv _), exec_of_finish_setX rfl (sext64_sshiftRight hv _)⟩⟩

/-- Settles O27: SLT, SLTU and SLTI compare as signed numbers, and sign extension keeps the number of the immediate. -/
theorem setOnLessThanSigned : Obligations.SetOnLessThanSigned :=
  ⟨selects_special 0x2A fun _ => rfl, selects_special 0x2B fun _ => rfl, selects_primary 0x0A fun _ => rfl,
    fun _ _ _ _ imm16 _ =>
      ⟨exec_of_finish_setX rfl (compareResult_less ..), exec_of_finish_setX rfl (compareResult_less ..),
        exec_of_finish_setX rfl (compareResult_less_imm _ imm16)⟩⟩

/-- Settles O28: SLTIU has the meaning of SLTI. -/
theorem sltiuComparesSigned : Obligations.SltiuComparesSigned :=
  ⟨selects_primary 0x0B fun _ => rfl, fun _ _ imm16 _ =>
    ⟨exec_of_finish_setX rfl (compareResult_less_imm _ imm16), rfl⟩⟩

/-! ## Rows that fault on every operand (60_exceptions.md R281) -/

/-- Only linking transfers have operands that the spec gives no meaning to (43_branch_jump.md R152). -/
theorem shapeOf_of_not_wellFormed {i : Instr} (h : i.wellFormed = false) : shapeOf i = .linkTransfer := by
  cases i with
  | bltzal | bgezal => rfl
  | _ => cases h

/-- An instruction of the shape `faults` can do nothing but fault. -/
theorem raisesUnimplemented_of_shape {i : Instr} (hi : shapeOf i = .faults) : RaisesUnimplemented i := by
  intro s
  have hr := exec_ran i s
  generalize exec i s = o at hr ⊢
  cases hr with
  | unimplemented => rfl
  | linkRegisterTested hw => exact absurd (hi.symm.trans (shapeOf_of_not_wellFormed hw)) nofun
  | inDelaySlot ht => rw [hi] at ht; cases ht
  | register _ _ hs | accumulators _ _ hs | control _ _ hs | loaded _ _ _ hs | stored _ _ hs | nothing hs | linkedOnly hs
  | scheduled _ hs | linkScheduled _ hs | annulled hs | invalidTarget _ hs | linkInvalidTarget _ hs | portFault _ _ hs =>
    simp [hi] at hs

/-- Settles O54: each row is a table entry, and its instruction has the shape `faults`. -/
theorem unassignedMnemonicsFault : Obligations.UnassignedMnemonicsFault := by
  refine ⟨selects_special 0x27 fun _ => rfl, selects_primary 0x0F fun _ => rfl, selects_special 0x1A fun _ => rfl,
    selects_special 0x1B fun _ => rfl, selects_special 0x09 fun _ => rfl, selects_regimm 0x12 fun _ => rfl,
    selects_regimm 0x13 fun _ => rfl, selects_primary 0x21 fun _ => rfl, selects_primary 0x25 fun _ => rfl,
    selects_primary 0x27 fun _ => rfl, selects_primary 0x29 fun _ => rfl, selects_primary 0x30 fun _ => rfl,
    selects_primary 0x38 fun _ => rfl, selects_primary 0x32 fun _ => rfl, selects_primary 0x36 fun _ => rfl,
    selects_primary 0x3A fun _ => rfl, selects_primary 0x3E fun _ => rfl, selects_primary 0x12 fun _ => rfl,
    selects_cop0 0x08 fun _ => rfl, selects_co 0x18 fun _ => rfl, selects_special 0x0C fun _ => rfl,
    selects_special 0x0D fun _ => rfl, selects_special 0x0F fun _ => rfl, selects_special 0x30 fun _ => rfl,
    selects_special 0x31 fun _ => rfl, selects_special 0x32 fun _ => rfl, selects_special 0x33 fun _ => rfl,
    selects_special 0x34 fun _ => rfl, selects_special 0x36 fun _ => rfl, selects_regimm 0x08 fun _ => rfl,
    selects_regimm 0x09 fun _ => rfl, selects_regimm 0x0A fun _ => rfl, selects_regimm 0x0B fun _ => rfl,
    selects_regimm 0x0C fun _ => rfl, selects_regimm 0x0E fun _ => rfl, fun rs rt rd sa imm16 co code target26 => ?_⟩
  and_intros <;> exact raisesUnimplemented_of_shape rfl

/-! ## What an instruction leaves unchanged (10_state.md R23) -/

theorem exec_keeps_accumulators {i : Instr} {s t : State} (h : exec i s = .next t) (hi : shapeOf i ≠ .accumulators) :
    t.hi = s.hi ∧ t.lo = s.lo := by
  have hr := h ▸ exec_ran i s
  cases hr with
  | accumulators _ _ hs => exact absurd hs hi
  | _ => exact ⟨rfl, rfl⟩

theorem exec_keeps_getC0 {i : Instr} {s t : State} (h : exec i s = .next t) (hi : ∀ r, shapeOf i ≠ .control r) (q : RegId) :
    t.getC0 q = s.getC0 q := by
  have hr := h ▸ exec_ran i s
  cases hr with
  | control r _ hs => exact absurd hs (hi r)
  | _ => rfl

theorem exec_keeps_mem {i : Instr} {s t : State} (h : exec i s = .next t) (hi : shapeOf i ≠ .store) : t.mem = s.mem := by
  have hr := h ▸ exec_ran i s
  cases hr with
  | stored _ _ hs => exact absurd hs hi
  | _ => rfl

/-- `halt` and the diagnostics change only by a fault, which sets the one and adds to the other (60_exceptions.md R284). -/
theorem exec_halt_diagnostics {i : Instr} {s t : State} (h : exec i s = .next t) :
    (t.halt = s.halt ∧ t.out.diagnostics = s.out.diagnostics) ∨
      (t.halt = true ∧ ∃ d, t.out.diagnostics = d :: s.out.diagnostics) := by
  have hr := h ▸ exec_ran i s
  cases hr with
  | unimplemented | invalidTarget | linkInvalidTarget | portFault => exact .inr ⟨rfl, _, rfl⟩
  | _ => exact .inl ⟨rfl, rfl⟩

/-- The frame of an instruction that writes neither the accumulators nor a control register, if `written` holds of the registers
that its shape names. -/
theorem exec_onlyWrites {i : Instr} {s t : State} {written : RegId → Prop} (h : exec i s = .next t)
    (hacc : shapeOf i ≠ .accumulators) (hcontrol : ∀ r, shapeOf i ≠ .control r)
    (hreg : ∀ q, shapeOf i = .register q ∨ shapeOf i = .load q → written q)
    (hlink : shapeOf i = .linkTransfer → written linkReg) : OnlyWrites written s t where
  registers q hq := exec_getX_of_not_written h (fun hs => hq (hreg q (.inl hs))) (fun hs => hq (hreg q (.inr hs)))
    fun hs hl => hq (hl ▸ hlink hs)
  hi := (exec_keeps_accumulators h hacc).1
  lo := (exec_keeps_accumulators h hacc).2
  control := exec_keeps_getC0 h hcontrol
  params := (exec_keeps_params h).1
  refresh := (exec_keeps_params h).2
  halt := exec_halt_diagnostics h

/-- Settles O55: the shape names one register as the destination, so it names no other, nor any other piece of state. -/
theorem frameOneRegister : Obligations.FrameOneRegister := by
  intro i s t r hi h
  obtain hs | hs := hi <;>
    exact ⟨exec_onlyWrites h (by simp [hs]) (by simp [hs]) (by simp [hs]) (by simp [hs]),
      fun k => congrArg (Memory.read · k) (exec_keeps_mem h (by simp [hs]))⟩

end Sys2Proof.Machine
end

section
/-! Proofs of the statements of 42_muldiv_hilo.md: the products, the moves from HI and LO, the rows that fault, and what a multiply
and a move to a control register leave unchanged. -/

namespace Sys2Proof.Machine

/-! ## Multiplies (42_muldiv_hilo.md R141, R142) -/

/-- The 64-bit pattern of the exact product, split into LO and HI, is the product and its quotient by 2^32, each mod 2^32. -/
theorem setProduct_product (s : State) (a b : DWord) :
    s.setProduct (product a b) = s.setHiLo (signed32Result (lowSigned a * lowSigned b / 2 ^ 32))
      (signed32Result (lowSigned a * lowSigned b)) := by
  rw [State.setProduct, product_eq, extract_high, extract_low, sext64_ofInt, sext64_ofInt]

/-- What the two handlers do, with the product on integers. -/
theorem exec_of_finish_product {i : Instr} {s : State} {a b : DWord} (he : exec i s = finish s (s.setProduct (product a b))) :
    exec i s = .next (s.setHiLo (signed32Result (lowSigned a * lowSigned b / 2 ^ 32))
      (signed32Result (lowSigned a * lowSigned b))).advanced := by
  rw [he, finish_setProduct, setProduct_product]

/-- Settles O29: both handlers write the same signed product, which is exact in 64 bits. -/
theorem multiplySignedIntoHiLo : Obligations.MultiplySignedIntoHiLo :=
  ⟨selects_special 0x18 fun _ => rfl, selects_special 0x19 fun _ => rfl,
    fun _ _ _ _ _ => ⟨exec_of_finish_product rfl, exec_of_finish_product rfl⟩⟩

/-! ## Moves from HI and LO (42_muldiv_hilo.md R143, R144) -/

/-- Settles O30: each writes one register, with the accumulator as it is. -/
theorem moveFromHiAndLo : Obligations.MoveFromHiAndLo :=
  ⟨selects_special 0x10 fun _ => rfl, selects_special 0x12 fun _ => rfl,
    fun _ _ _ _ _ => ⟨exec_of_finish_setX rfl rfl, exec_of_finish_setX rfl rfl⟩⟩

/-! ## Rows that fault on every operand (42_muldiv_hilo.md R145, R146; 44_load_store.md R191 to R200) -/

/-- Settles O50: each row is a table entry, and its instruction has the shape `faults`. -/
theorem movesAndPartialAccessesFault : Obligations.MovesAndPartialAccessesFault := by
  refine ⟨selects_special 0x11 fun _ => rfl, selects_special 0x13 fun _ => rfl, selects_primary 0x22 fun _ => rfl,
    selects_primary 0x26 fun _ => rfl, selects_primary 0x2A fun _ => rfl, selects_primary 0x2E fun _ => rfl,
    selects_primary 0x37 fun _ => rfl, selects_primary 0x3F fun _ => rfl, selects_primary 0x1A fun _ => rfl,
    selects_primary 0x1B fun _ => rfl, selects_primary 0x2C fun _ => rfl, selects_primary 0x2D fun _ => rfl,
    fun rs rt rd sa imm16 => ?_⟩
  and_intros <;> exact raisesUnimplemented_of_shape rfl

/-! ## What a multiply and a move to a control register leave unchanged (10_state.md R23) -/

/-- A multiply does nothing but write a product and advance. -/
theorem exec_of_shape_accumulators {i : Instr} (hi : shapeOf i = .accumulators) (s : State) :
    ∃ v, exec i s = .next (s.setProduct v).advanced := by
  cases i with
  | mult | multu => exact ⟨_, finish_setProduct _ _⟩
  | _ => cases hi

/-- `MTC0` writes no control register but its destination, and not that one where it faults (45_cop0_system.md R222). -/
theorem exec_control_keeps_getC0 {i : Instr} {s t : State} {r q : RegId} (h : exec i s = .next t) (hi : shapeOf i = .control r)
    (hq : q ≠ r ∨ t.halt ≠ s.halt) : t.getC0 q = s.getC0 q := by
  have hr := h ▸ exec_ran i s
  cases hr with
  | control r' v hs =>
    obtain rfl : r = r' := Shape.control.inj (hi.symm.trans hs)
    obtain hne | hhalt := hq
    · exact setC0_getC0_ne s r q v hne
    · exact absurd rfl hhalt
  | _ => rfl

/-- Settles O56: a multiply ends in its product, advanced; the shape of `MTC0` names one control register and nothing else. -/
theorem frameAccumulatorsAndControl : Obligations.FrameAccumulatorsAndControl := by
  refine ⟨fun i s t hi h => ?_, fun i s t r hi h => ?_⟩
  · obtain ⟨v, hv⟩ := exec_of_shape_accumulators hi s
    cases h.symm.trans hv
    exact ⟨fun _ => rfl, fun _ => rfl, rfl, rfl, rfl, fun _ => rfl⟩
  · obtain ⟨hhi, hlo⟩ := exec_keeps_accumulators h (by simp [hi])
    exact ⟨fun q => exec_getX_of_not_written h (by simp [hi]) (by simp [hi]) (by simp [hi]), hhi, hlo,
      fun q => exec_control_keeps_getC0 h hi, (exec_keeps_params h).1,
      fun k => congrArg (Memory.read · k) (exec_keeps_mem h (by simp [hi]))⟩

end Sys2Proof.Machine
end

section
/-! Proofs of the statements of 43_branch_jump.md: the rows that select the transfers, what each does when it is taken and when it
is not, and what a transfer leaves unchanged. -/

namespace Sys2Proof.Machine

/-! ## Jumps (43_branch_jump.md R153 to R155) -/

/-- Settles O31: the two rows, and the targets that J and JAL schedule. -/
theorem jumpsScheduleRegionTarget : Obligations.JumpsScheduleRegionTarget :=
  ⟨selects_primary 0x02 fun _ => rfl, selects_primary 0x03 fun _ => rfl, fun target26 =>
    ⟨schedules_j target26, schedules_jal target26⟩⟩

/-- Settles O32: the row, and the target that JR schedules. -/
theorem jumpRegisterSchedulesLowHalf : Obligations.JumpRegisterSchedulesLowHalf :=
  ⟨selects_special 0x08 fun _ => rfl, schedules_jr⟩

/-! ## Branches taken and not taken (43_branch_jump.md R150, 40_step_and_dispatch.md R95, R96) -/

section Branches

variable {i : Instr} {condition : State → Prop} [DecidablePred condition] {c : State → Bool} {imm16 : BitVec 16}
  (hc : ∀ s, c s = decide (condition s))

include hc

/-- `pre` is the link write, or nothing: it leaves alone what the branch and the PC update read. -/
theorem schedules_of_branchIf {pre : State → State}
    (he : ∀ s, exec i s = branchIf (c s) (encode i) (branchTarget s.pc imm16) s (pre s))
    (hpc : ∀ s, (pre s).pc = s.pc := by exact fun _ => rfl)
    (hparams : ∀ s, (pre s).params = s.params := by exact fun _ => rfl) :
    Schedules i condition pre (fun s => branchAddress s.pc imm16) :=
  schedules_of_exec_eq hpc hparams fun s htaken => by
    rw [he, hc, decide_eq_true htaken, branchTarget_eq]
    rfl

theorem fallsThrough_of_branchIf {pre : State → State}
    (he : ∀ s, exec i s = branchIf (c s) (encode i) (branchTarget s.pc imm16) s (pre s))
    (hpc : ∀ s, (pre s).pc = s.pc := by exact fun _ => rfl)
    (hd : ∀ s, (pre s).delayPC = s.delayPC := by exact fun _ => rfl) : FallsThrough i condition pre := fun s hfails => by
  rw [he, hc, decide_eq_false hfails]
  exact finish_eq (hpc s) (hd s)

theorem schedules_of_branchLikely (he : ∀ s, exec i s = branchLikely (c s) (encode i) (branchTarget s.pc imm16) s) :
    Schedules i condition (fun s => s) (fun s => branchAddress s.pc imm16) :=
  schedules_of_exec_eq (fun _ => rfl) (fun _ => rfl) fun s htaken => by
    rw [he, hc, decide_eq_true htaken, branchTarget_eq]
    rfl

end Branches

theorem annuls_of_annulsSlot {i : Instr} {condition : State → Prop} (h : ∀ s, ¬ condition s → annulsSlot i s) :
    Annuls i condition := fun s hfails => exec_of_annulsSlot (h s hfails)

/-- Settles O33: a branch is `branchIf` of its condition, which is the comparison of integers. -/
theorem branchesScheduleOrFallThrough : Obligations.BranchesScheduleOrFallThrough :=
  ⟨selects_primary 0x04 fun _ => rfl, selects_primary 0x05 fun _ => rfl, selects_primary 0x06 fun _ => rfl,
    selects_primary 0x07 fun _ => rfl, selects_regimm 0x00 fun _ => rfl, selects_regimm 0x01 fun _ => rfl,
    fun rs rt imm16 =>
      ⟨schedules_beq rs rt imm16, fallsThrough_of_branchIf (fun _ => condEq_eq ..) fun _ => rfl,
        schedules_of_branchIf (fun _ => condNe_eq ..) fun _ => rfl,
        fallsThrough_of_branchIf (fun _ => condNe_eq ..) fun _ => rfl,
        schedules_of_branchIf (fun _ => condLez_eq _) fun _ => rfl,
        fallsThrough_of_branchIf (fun _ => condLez_eq _) fun _ => rfl,
        schedules_of_branchIf (fun _ => condGtz_eq _) fun _ => rfl,
        fallsThrough_of_branchIf (fun _ => condGtz_eq _) fun _ => rfl,
        schedules_of_branchIf (fun _ => condLtz_eq _) fun _ => rfl,
        fallsThrough_of_branchIf (fun _ => condLtz_eq _) fun _ => rfl,
        schedules_of_branchIf (fun _ => condGez_eq _) fun _ => rfl,
        fallsThrough_of_branchIf (fun _ => condGez_eq _) fun _ => rfl⟩⟩

/-- Settles O34: taken, a likely branch schedules as the plain branch does; where its condition fails it annuls its slot. -/
theorem likelyBranchesScheduleOrAnnul : Obligations.LikelyBranchesScheduleOrAnnul :=
  ⟨selects_primary 0x14 fun _ => rfl, selects_primary 0x15 fun _ => rfl, selects_primary 0x16 fun _ => rfl,
    selects_primary 0x17 fun _ => rfl, selects_regimm 0x02 fun _ => rfl, selects_regimm 0x03 fun _ => rfl,
    fun _ _ _ =>
      ⟨schedules_of_branchLikely (fun _ => condEq_eq ..) fun _ => rfl, annuls_of_annulsSlot fun _ => id,
        schedules_of_branchLikely (fun _ => condNe_eq ..) fun _ => rfl, annuls_of_annulsSlot fun _ => not_not.1,
        schedules_of_branchLikely (fun _ => condLez_eq _) fun _ => rfl, annuls_of_annulsSlot fun _ => not_le.1,
        schedules_of_branchLikely (fun _ => condGtz_eq _) fun _ => rfl, annuls_of_annulsSlot fun _ => not_lt.1,
        schedules_of_branchLikely (fun _ => condLtz_eq _) fun _ => rfl, annuls_of_annulsSlot fun _ => not_lt.1,
        schedules_of_branchLikely (fun _ => condGez_eq _) fun _ => rfl, annuls_of_annulsSlot fun _ => not_le.1⟩⟩

/-! ## Branches that link (43_branch_jump.md R152, R162, R163) -/

section Link

variable {rs : RegId} (hr : rs ≠ 31) (imm16 : BitVec 16) (s : State)

include hr

theorem exec_bltzal : exec (.bltzal rs imm16) s =
    branchIf (condLtz (s.getX rs)) (encode (.bltzal rs imm16)) (branchTarget s.pc imm16) s (linked s) := by
  rw [← link_eq_linked]
  exact if_neg hr

theorem exec_bgezal : exec (.bgezal rs imm16) s =
    branchIf (condGez (s.getX rs)) (encode (.bgezal rs imm16)) (branchTarget s.pc imm16) s (linked s) := by
  rw [← link_eq_linked]
  exact if_neg hr

end Link

/-- Settles O35: the condition is of the state before the link write, and both ways of the branch start from the state after it. -/
theorem linkBranchesWriteLinkAlways : Obligations.LinkBranchesWriteLinkAlways :=
  ⟨selects_regimm 0x10 fun _ => rfl, selects_regimm 0x11 fun _ => rfl, fun _ imm16 hr =>
    ⟨schedules_of_branchIf (fun _ => condLtz_eq _) (exec_bltzal hr imm16),
      fallsThrough_of_branchIf (fun _ => condLtz_eq _) (exec_bltzal hr imm16),
      schedules_of_branchIf (fun _ => condGez_eq _) (exec_bgezal hr imm16),
      fallsThrough_of_branchIf (fun _ => condGez_eq _) (exec_bgezal hr imm16)⟩⟩

/-! ## What a transfer leaves unchanged (10_state.md R23) -/

theorem exec_sameBytes {i : Instr} {s t : State} (h : exec i s = .next t) (hi : shapeOf i ≠ .store) : SameBytes s t :=
  fun k => congrArg (Memory.read · k) (exec_keeps_mem h hi)

/-- Settles O57: the three shapes name no register and no memory. -/
theorem frameTransfersAndCache : Obligations.FrameTransfersAndCache := by
  intro i s t hi h
  obtain hs | hs | hs := hi <;>
    exact ⟨exec_onlyWrites h (by simp [hs]) (by simp [hs]) (by simp [hs]) (by simp [hs]), exec_sameBytes h (by simp [hs])⟩

/-- Settles O58: the shape names the link register and nothing else. -/
theorem frameLinkingTransfers : Obligations.FrameLinkingTransfers := fun i s t hs h =>
  ⟨exec_onlyWrites h (by simp [hs]) (by simp [hs]) (by simp [hs]) fun _ => rfl, exec_sameBytes h (by simp [hs])⟩

end Sys2Proof.Machine
end

section
/-! Proofs of the statements of 44_load_store.md: the effective address, what a load or a store does where the collaborator answers
and where it faults, CACHE, the rows that fault, and what a store leaves unchanged. -/

namespace Sys2Proof.Machine

/-! ## The effective address (44_load_store.md R180) -/

/-- Settles O40: the address is a sum of integers mod 2^32, in which the base stands by its low half only. -/
theorem effectiveAddressWraps : Obligations.EffectiveAddressWraps := fun base imm16 =>
  ⟨effectiveAddress_eq base imm16, fun base' h => by rw [effectiveAddress_eq, effectiveAddress_eq, h]⟩

/-! ## Loads and stores, answered and faulted (44_load_store.md R181 to R185) -/

theorem sext64_eq (v : Word) : sext64 v = signed32Result v.toNat := by
  rw [← sext64_ofInt, BitVec.ofInt_natCast, BitVec.ofNat_toNat, BitVec.setWidth_eq]

/-- The outcomes of an instruction that makes the call `c`, by what the collaborator answers. -/
theorem outcomes_of_call {s t u : State} {c : PortCall} {o : Outcome} (h : o = if s.faults c then .next u else .next t) :
    (s.faults c = false → o = .next t) ∧ (s.faults c = true → o = .next u) :=
  ⟨fun hf => h.trans (if_neg (by simp [hf])), fun hf => h.trans (if_pos hf)⟩

/-- What an instruction does whose handler loads a byte and extends it by zeros, as `LB` and `LBU` do. -/
theorem exec_of_finishLoad_byte {i : Instr} {s : State} {rt : RegId} {a b : Word} (hb : b = a)
    (he : exec i s = finishLoad s rt zext64OfByte (s.memReadByte (some (encode i)) a)) :
    (s.faults (.readByte b) = false →
      exec i s = .next ((s.called (.readByte b)).setX rt (BitVec.ofNat 64 (s.answeredByte b).toNat)).advanced) ∧
    (s.faults (.readByte b) = true →
      exec i s = .next ((s.called (.readByte b)).capture (.memoryFault b) (some (encode i)))) := by
  subst hb
  rw [finishLoad_byte_eq, zext64OfByte_eq] at he
  exact outcomes_of_call he

/-- Settles O41: a load is one call at the effective address, and the extensions are the integers they stand for. -/
theorem loadByteUnsignedAndWord : Obligations.LoadByteUnsignedAndWord := by
  refine ⟨selects_primary 0x24 fun _ => rfl, selects_primary 0x23 fun _ => rfl,
    fun rs rt imm16 s a ha => ?_, fun rs rt imm16 s a ha => ?_⟩
  · exact exec_of_finishLoad_byte (ha.trans (effectiveAddress_eq ..).symm) rfl
  · rw [ha, ← effectiveAddress_eq, ← sext64_eq]
    exact outcomes_of_call (finishLoad_word_eq ..)

/-- Settles O42: the handler of LB extends by zeros, as that of LBU does. -/
theorem loadByteZeroExtends : Obligations.LoadByteZeroExtends :=
  ⟨selects_primary 0x20 fun _ => rfl, fun _ _ _ _ _ ha =>
    exec_of_finishLoad_byte (ha.trans (effectiveAddress_eq ..).symm) rfl⟩

/-- Settles O43: a store is one call at the effective address, with the low byte or the low half of the register. -/
theorem storesWriteTheirWidth : Obligations.StoresWriteTheirWidth := by
  refine ⟨selects_primary 0x28 fun _ => rfl, selects_primary 0x2B fun _ => rfl,
    fun rs rt imm16 s a v ha hv => ?_, fun rs rt imm16 s a v ha hv => ?_⟩
  · rw [ha, hv, ← effectiveAddress_eq, ofInt_low_byte, ← extract_byte]
    exact outcomes_of_call (finishStore_byte_eq ..)
  · rw [ha, hv, ← effectiveAddress_eq, ofInt_low]
    exact outcomes_of_call (finishStore_word_eq ..)

/-! ## CACHE (44_load_store.md R186) -/

/-- Settles O48: the handler returns the state it was given. -/
theorem cacheDoesNothing : Obligations.CacheDoesNothing :=
  ⟨selects_primary 0x2F fun _ => rfl, fun _ _ _ => finish_self⟩

/-! ## Rows that fault on every operand (44_load_store.md R203 to R208, 45_cop0_system.md R223, R224, R226 to R229) -/

/-- Settles O51: each row is a table entry, and its instruction has the shape `faults`. -/
theorem coprocessorAccessesAndTlbFault : Obligations.CoprocessorAccessesAndTlbFault := by
  refine ⟨selects_primary 0x34 fun _ => rfl, selects_primary 0x3C fun _ => rfl, selects_primary 0x31 fun _ => rfl,
    selects_primary 0x39 fun _ => rfl, selects_primary 0x35 fun _ => rfl, selects_primary 0x3D fun _ => rfl,
    selects_cop0 0x01 fun _ => rfl, selects_cop0 0x05 fun _ => rfl, selects_co 0x01 fun _ => rfl,
    selects_co 0x02 fun _ => rfl, selects_co 0x06 fun _ => rfl, selects_co 0x08 fun _ => rfl,
    fun rs rt rd imm16 low11 co => ?_⟩
  and_intros <;> exact raisesUnimplemented_of_shape rfl

/-! ## What a store leaves unchanged (10_state.md R23) -/

theorem exec_store_onlyWrites {i : Instr} {s t : State} (hs : shapeOf i = .store) (h : exec i s = .next t) :
    OnlyWrites (fun _ => False) s t :=
  exec_onlyWrites h (by simp [hs]) (by simp [hs]) (by simp [hs]) (by simp [hs])

/-- A store, answered or faulted, leaves every byte alone that is not at one of its keys. -/
theorem exec_read_of_not_stored {i : Instr} {s t : State} {k : Nat} (h : exec i s = .next t) (hk : k ∉ storedKeys i s) :
    t.mem.read k = s.mem.read k := by
  have hr := h ▸ exec_ran i s
  cases hr with
  | stored _ _ _ _ hm => exact hm k hk
  | _ => rfl

/-- Settles O59: the shape of a store names no register, and its keys are the bytes from the effective address. -/
theorem frameStores : Obligations.FrameStores := by
  rintro rs rt imm16 s t a rfl
  refine ⟨fun h => ⟨exec_store_onlyWrites rfl h, fun k hk => exec_read_of_not_stored h ?_⟩,
    fun h => ⟨exec_store_onlyWrites rfl h, fun k hk => exec_read_of_not_stored h ?_⟩⟩
  · simpa [storedKeys, byteKey_zero] using hk
  · simpa [storedKeys, byteKey_eq, eq_comm] using hk

end Sys2Proof.Machine
end

section
/-! Proofs of the statements of 45_cop0_system.md: the reserved slots of the decode tables, and the moves from and to a control
register. -/

namespace Sys2Proof.Machine

/-! ## Reserved words (45_cop0_system.md R231, 46_doubleword_cop1_reserved.md R272 to R274): the slots of each table with no entry -/

section Reserved
/- In each proof the case that closes by `rfl` is the default entry of the table; the index is that of no other entry. -/

variable {w : Word}

theorem decodePrimary_of_reserved {opcode : BitVec 6} (h : opcode.toNat ∈ [19, 28, 29, 30, 31, 51, 59]) :
    decodePrimary opcode w = .error (.reservedPrimary opcode) := by
  unfold decodePrimary
  split
  case h_58 => rfl
  all_goals exact absurd h (by decide)

theorem decodeSpecial_of_reserved {funct : BitVec 6} (h : funct.toNat ∈ [1, 5, 10, 11, 14, 21, 40, 41, 53, 55, 57, 61]) :
    decodeSpecial funct w = .error (.reservedSpecial funct) := by
  unfold decodeSpecial
  split
  case h_53 => rfl
  all_goals exact absurd h (by decide)

theorem decodeRegimm_of_reserved {rt : RegId}
    (h : rt.toNat ∈ [4, 5, 6, 7, 13, 15, 20, 21, 22, 23, 24, 25, 26, 27, 28, 29, 30, 31]) :
    decodeRegimm rt w = .error (.reservedRegimm rt) := by
  unfold decodeRegimm
  split
  case h_15 => rfl
  all_goals exact absurd h (by decide)

theorem decodeCo_of_reserved {funct : BitVec 6} (h : funct.toNat ∉ [1, 2, 6, 8, 24]) :
    decodeCo funct w = .error (.reservedCop0 (rsOf w) funct) := by
  unfold decodeCo
  split
  case h_6 => rfl
  all_goals exact absurd (by decide) h

/-- Bit 4 of the index marks the upper half of the coprocessor-0 table (30_encoding.md R70). -/
theorem getLsbD_four_iff (rs : RegId) : rs.getLsbD 4 = true ↔ 16 ≤ rs.toNat := by
  rw [← BitVec.msb_eq_getLsbD_last rs, BitVec.msb_eq_decide, decide_eq_true_iff]

theorem decodeCop0_of_co {rs : RegId} (h : 16 ≤ rs.toNat) : decodeCop0 rs w = decodeCo (functOf w) w :=
  if_pos ((getLsbD_four_iff rs).2 h)

theorem decodeCop0_of_reserved {rs : RegId} (h : rs.toNat ∈ [2, 3, 6, 7, 9, 10, 11, 12, 13, 14, 15]) :
    decodeCop0 rs w = .error (.reservedCop0 rs (functOf w)) := by
  have hlow : ¬ 16 ≤ rs.toNat := (by decide : ∀ n ∈ [2, 3, 6, 7, 9, 10, 11, 12, 13, 14, 15], ¬ 16 ≤ n) _ h
  unfold decodeCop0
  rw [if_neg (mt (getLsbD_four_iff rs).1 hlow)]
  split
  case h_6 => rfl
  all_goals exact absurd h (by decide)

theorem decode_of_opcode {opcode : BitVec 6} (ho : opcodeOf w = opcode) : decode w = decodePrimary opcode w :=
  congrArg (decodePrimary · w) ho

end Reserved

theorem step_of_reserved {s : State} {w : Word} {e : DecodeError} (hh : s.halt = false) (hf : s.fetches w)
    (hd : decode w = .error e) : step s = .next ((s.called (.readWord s.pc)).capture .unimplementedOperation (some w)) := by
  rw [step_of_fetches hh hf, dispatchWord, hd]; rfl

/-- Settles O6: each class of words falls to the default entry of one table, so the word decodes to nothing. -/
theorem reservedWordRaisesUnimplemented : Obligations.ReservedWordRaisesUnimplemented := by
  intro s w hh hf hw
  obtain ⟨e, hd⟩ : ∃ e, decode w = .error e := by
    obtain hop | ⟨hop, hfunct⟩ | ⟨hop, hrt⟩ | ⟨hop, hrs⟩ | ⟨hop, hrs, hfunct⟩ := hw
    · exact ⟨_, decodePrimary_of_reserved hop⟩
    · exact ⟨_, (decode_of_opcode hop).trans (decodeSpecial_of_reserved hfunct)⟩
    · exact ⟨_, (decode_of_opcode hop).trans (decodeRegimm_of_reserved hrt)⟩
    · exact ⟨_, (decode_of_opcode hop).trans (decodeCop0_of_reserved hrs)⟩
    · exact ⟨_, (decode_of_opcode hop).trans ((decodeCop0_of_co hrs).trans (decodeCo_of_reserved hfunct))⟩
  exact step_of_reserved hh hf hd

/-! ## Moves from and to a control register (45_cop0_system.md R221, R222, decision D25) -/

theorem exec_mtc0_of_writable {s : State} (rt : RegId) {rd : RegId} (low11 : BitVec 11)
    (h : Params.writable s.params rd = true) :
    exec (.mtc0 rt rd low11) s = .next (s.setC0 rd (BitVec.ofInt 32 (low (s.getX rt)))).advanced := by
  rw [ofInt_low, ← finish_setC0]; exact if_pos h

theorem exec_mtc0_of_not_writable {s : State} (rt : RegId) {rd : RegId} (low11 : BitVec 11)
    (h : Params.writable s.params rd = false) :
    exec (.mtc0 rt rd low11) s = .next (s.capture .unimplementedOperation (some (encode (.mtc0 rt rd low11)))) :=
  if_neg (by simp [h])

/-- Settles O49: `MFC0` reads any control register, and `MTC0` asks first whether it may write. -/
theorem controlRegisterMoves : Obligations.ControlRegisterMoves :=
  ⟨selects_cop0 0x00 fun _ => rfl, selects_cop0 0x04 fun _ => rfl, fun rt _ low11 _ =>
    ⟨exec_of_finish_setX rfl (sext64_eq _), exec_mtc0_of_writable rt low11, exec_mtc0_of_not_writable rt low11⟩⟩

end Sys2Proof.Machine
end

section
/-! Proofs of the statements of 46_doubleword_cop1_reserved.md: the doubleword instructions and COP1, all of which fault. -/

namespace Sys2Proof.Machine

/-! ## Rows that fault on every operand (46_doubleword_cop1_reserved.md R251 to R270) -/

/-- Settles O52: each row is a table entry, and its instruction has the shape `faults`. -/
theorem doublewordArithmeticFaults : Obligations.DoublewordArithmeticFaults := by
  refine ⟨selects_special 0x2C fun _ => rfl, selects_special 0x2D fun _ => rfl, selects_special 0x2E fun _ => rfl,
    selects_special 0x2F fun _ => rfl, selects_primary 0x18 fun _ => rfl, selects_primary 0x19 fun _ => rfl,
    selects_special 0x38 fun _ => rfl, selects_special 0x3A fun _ => rfl, selects_special 0x3B fun _ => rfl,
    selects_special 0x14 fun _ => rfl, selects_special 0x16 fun _ => rfl, selects_special 0x17 fun _ => rfl,
    fun rs rt rd sa imm16 => ?_⟩
  and_intros <;> exact raisesUnimplemented_of_shape rfl

/-- Settles O53: each row is a table entry, and its instruction has the shape `faults`. -/
theorem doublewordMultiplyAndCop1Fault : Obligations.DoublewordMultiplyAndCop1Fault := by
  refine ⟨selects_special 0x3C fun _ => rfl, selects_special 0x3E fun _ => rfl, selects_special 0x3F fun _ => rfl,
    selects_special 0x1C fun _ => rfl, selects_special 0x1D fun _ => rfl, selects_special 0x1E fun _ => rfl,
    selects_special 0x1F fun _ => rfl, selects_primary 0x11 fun _ => rfl, fun rs rt rd sa target26 => ?_⟩
  and_intros <;> exact raisesUnimplemented_of_shape rfl

end Sys2Proof.Machine
end

section
/-! Proofs of the statements of 60_exceptions.md: what a faulting step leaves unchanged, that the fault recurs in the next pass, and
the host's change of the memory. -/

namespace Sys2Proof.Machine

/-! ## What a fault leaves behind (60_exceptions.md R284, R287) -/

/-- `t` is `s` with the fault `d` captured: beside `halt` and the diagnostic, only what the port saw and took up may differ. -/
def HaltedBy (d : Diagnostic) (s t : State) : Prop :=
  t = { s with
    halt := true
    answers := t.answers
    settled := t.settled
    out := { s.out with diagnostics := d :: s.out.diagnostics, portCalls := t.out.portCalls } }

/-- All that an instruction can leave when it faults: the state it found, or, where a linking transfer met an invalid target, that
state after the link write. -/
theorem exec_faulted {i : Instr} {s t : State} (hh : s.halt = false) (h : exec i s = .next t) (ht : t.halt = true) :
    ∃ k, HaltedBy ⟨k, s.pc, some (encode i)⟩ s t ∨
      (HaltedBy ⟨k, s.pc, some (encode i)⟩ s.link t ∧ (∃ target, k = .invalidBranchTarget target) ∧
        shapeOf i = .linkTransfer) := by
  have hr := h ▸ exec_ran i s
  cases hr with
  | unimplemented | invalidTarget | portFault => exact ⟨_, .inl rfl⟩
  | linkInvalidTarget target hi => exact ⟨_, .inr ⟨rfl, ⟨target, rfl⟩, hi⟩⟩
  | _ => exact absurd (hh.symm.trans ht) Bool.false_ne_true

/-- All that a faulting step can leave. The fetch differs from `s` in what `HaltedBy` leaves open, so it does not show. -/
theorem step_faulted {s t : State} (hh : s.halt = false) (h : step s = .next t) (ht : t.halt = true) :
    ∃ d : Diagnostic, d.address = s.pc ∧
      (s.faults (.readWord s.pc) = true → d.word = none ∧ d.kind = .memoryFault s.pc) ∧
      (s.faults (.readWord s.pc) = false → d.word = some (s.answeredWord s.pc)) ∧
      (HaltedBy d s t ∨ (HaltedBy d s.link t ∧ (∃ target, d.kind = .invalidBranchTarget target) ∧
        ∃ i, s.fetches (s.answeredWord s.pc) ∧ decode (s.answeredWord s.pc) = .ok i ∧ shapeOf i = .linkTransfer)) := by
  have hr := h ▸ step_stepped s
  cases hr with
  | halted hh' => exact absurd (hh.symm.trans hh') Bool.false_ne_true
  | fetchFault _ hf => exact ⟨_, rfl, fun _ => ⟨rfl, rfl⟩, fun hf' => absurd (hf'.symm.trans hf) Bool.false_ne_true, .inl rfl⟩
  | reserved w e _ hf =>
    exact ⟨_, rfl, fun hf' => absurd (hf.1.symm.trans hf') Bool.false_ne_true, fun _ => congrArg some hf.2.symm, .inl rfl⟩
  | ran w i _ _ hf hd he =>
    obtain ⟨hanswered, rfl⟩ := hf
    obtain ⟨k, hk⟩ := exec_faulted (s := s.called _) hh he.symm ht
    refine ⟨⟨k, s.pc, some (encode i)⟩, rfl, fun hf' => absurd (hanswered.symm.trans hf') Bool.false_ne_true,
      fun _ => congrArg some (encodeOfDecode _ _ hd), hk.imp id fun ⟨hk, hkind, hi⟩ =>
        ⟨hk, hkind, i, ⟨hanswered, rfl⟩, hd, hi⟩⟩

/-- The link write changes no register but `x[31]`, which holds the link value (43_branch_jump.md R152). -/
theorem link_getX_eq_or (s : State) (r : RegId) :
    s.link.getX r = s.getX r ∨ (r = 31 ∧ s.link.getX r = signed32Result (s.pc.toNat + 8)) := by
  by_cases hr : r = linkReg
  · subst hr
    exact .inr ⟨rfl, by rw [link_getX_same, linkValue_eq]⟩
  · exact .inl (link_getX_ne s r hr)

/-- Settles O11: a fault captures the state it finds, and what it finds is `s` but for the port and the link write. -/
theorem faultIsPrecise : Obligations.FaultIsPrecise := by
  intro s t hh h ht
  obtain ⟨d, haddr, hfetch, hword, hk | ⟨hk, hkind, i, -, hd, hi⟩⟩ := step_faulted hh h ht
  · rw [hk]
    exact ⟨rfl, rfl, rfl, rfl, rfl, fun _ => rfl, rfl, rfl, rfl, d, rfl, haddr, hfetch, hword, fun _ => .inl rfl⟩
  · rw [hk]
    exact ⟨rfl, rfl, rfl, rfl, rfl, fun _ => rfl, rfl, rfl, rfl, d, rfl, haddr, hfetch, hword,
      fun r => (link_getX_eq_or s r).imp_right fun ⟨hr, hv⟩ => ⟨hr, hv, hkind, i, hd, hi⟩⟩

/-! ## The pass after a fault (60_exceptions.md R289, decision D36): behind `FlatMem` it raises the same fault -/

/-- The diagnostic of the fault with which an outcome ends, if it ends with one. -/
def raised : Outcome → Option Diagnostic
  | .next t => if t.halt then t.out.diagnostics.head? else none
  | _ => none

/-- The state in which the host resumes a core that a fault has stopped in `s`, behind `FlatMem`: R56 may bind other bytes, and more
has been sent out. -/
def State.resumed (settled : List Word) (out : Outputs) (s : State) : State :=
  { s with halt := false, answers := [], settled := settled, out := out }

theorem raised_of_halt_false {u : State} (hu : u.halt = false) : raised (.next u) = none := by simp [raised, hu]

theorem raised_finish {s0 u : State} (hu : u.halt = false) : raised (finish s0 u) = none :=
  raised_of_halt_false (by simpa using hu)

/-- A branch raises `InvalidBranchTarget` where it is taken, stands outside a delay slot and has such a target. -/
theorem raised_branchIf {c : Bool} {w t : Word} {s0 u : State} (hu : u.halt = false) :
    raised (branchIf c w t s0 u) =
      if c = true ∧ s0.delayPC = 0 ∧ Params.invalidTarget u.params t = true then some ⟨.invalidBranchTarget t, u.pc, some w⟩
      else none := by
  cases c with
  | false => exact raised_finish hu
  | true =>
    simp only [branchIf, scheduleBranch, true_and, if_true]
    split
    · next hd => rw [if_neg (not_and_of_not_left _ hd)]; rfl
    · next hd =>
      split
      · next hi => rw [if_pos ⟨not_not.1 hd, hi⟩]; rfl
      · next hi => rw [if_neg (not_and_of_not_right _ hi), raised_finish (by exact hu)]

/-- A likely branch raises what the plain branch raises: to annul the slot is no fault. -/
theorem raised_branchLikely {c : Bool} {w t : Word} {s : State} (hh : s.halt = false) :
    raised (branchLikely c w t s) = raised (branchIf c w t s s) := by
  cases c with
  | false =>
    rw [branchIf, if_neg Bool.false_ne_true, raised_finish hh]
    refine (congrArg raised (annulSlot_eq s)).trans ?_
    split
    · rfl
    · exact raised_of_halt_false hh
  | true => rfl

/-- A load or a store raises `MemoryFault` where its call is answered by a fault. -/
theorem raised_access {o : Outcome} {s u : State} {c : PortCall} {k : FaultKind} {w : Option Word} (hu : u.halt = false)
    (ho : o = if s.faults c then .next ((s.called c).capture k w) else .next u.advanced) :
    raised o = if s.faults c then some ⟨k, s.pc, w⟩ else none := by
  rw [ho]
  split
  · rfl
  · exact raised_of_halt_false hu

section Recurs

variable {settled : List Word} {out : Outputs} {s : State} (hh : s.halt = false) (ha : s.answers = [])

include ha in
theorem faults_resumed (c : PortCall) : (s.resumed settled out).faults c = s.faults c := by
  rw [faults_of_flat ha, faults_of_flat rfl]
  rfl

include hh in
theorem raised_finish_resumed {u u' : State} (hu : u.halt = s.halt) (hu' : u'.halt = false) :
    raised (finish (s.resumed settled out) u') = raised (finish s u) := by
  rw [raised_finish hu', raised_finish (hu.trans hh)]

include hh in
/-- `u` and `u'` are the states after the link write, if there is one. -/
theorem raised_branchIf_resumed {c : Bool} {w t : Word} {u u' : State} (hu : u.halt = s.halt) (hu' : u'.halt = false)
    (hp : u'.params = u.params) (hpc : u'.pc = u.pc) :
    raised (branchIf c w t (s.resumed settled out) u') = raised (branchIf c w t s u) := by
  rw [raised_branchIf hu', raised_branchIf (hu.trans hh), hp, hpc]
  rfl

include hh in
theorem raised_branchLikely_resumed {c : Bool} {w t : Word} :
    raised (branchLikely c w t (s.resumed settled out)) = raised (branchLikely c w t s) := by
  rw [raised_branchLikely rfl, raised_branchLikely hh]
  exact raised_branchIf_resumed hh rfl rfl rfl rfl

include hh ha

theorem raised_access_resumed {o o' : Outcome} {u u' : State} {c : PortCall} {k : FaultKind} {w : Option Word}
    (ho' : o' = if (s.resumed settled out).faults c then .next (((s.resumed settled out).called c).capture k w)
      else .next u'.advanced)
    (ho : o = if s.faults c then .next ((s.called c).capture k w) else .next u.advanced)
    (hu : u.halt = s.halt) (hu' : u'.halt = false) : raised o' = raised o := by
  rw [raised_access hu' ho', raised_access (hu.trans hh) ho, faults_resumed ha]
  rfl

/-- An instruction raises in the resumed state what it raised in `s`. The rows that are not named fault on every operand. -/
theorem raised_exec_resumed (i : Instr) : raised (exec i (s.resumed settled out)) = raised (exec i s) := by
  cases i with
  | j | jr | jal => exact raised_branchIf_resumed (c := true) hh rfl rfl rfl rfl
  | beq | bne | blez | bgtz | bltz | bgez => exact raised_branchIf_resumed hh rfl rfl rfl rfl
  | beql | bnel | blezl | bgtzl | bltzl | bgezl => exact raised_branchLikely_resumed hh
  | bltzal rs imm16 =>
    by_cases hr : rs = linkReg
    · subst hr; rfl
    · rw [exec_bltzal hr, exec_bltzal hr]; exact raised_branchIf_resumed hh rfl rfl rfl rfl
  | bgezal rs imm16 =>
    by_cases hr : rs = linkReg
    · subst hr; rfl
    · rw [exec_bgezal hr, exec_bgezal hr]; exact raised_branchIf_resumed hh rfl rfl rfl rfl
  | lb | lbu => exact raised_access_resumed hh ha (finishLoad_byte_eq ..) (finishLoad_byte_eq ..) rfl rfl
  | lw => exact raised_access_resumed hh ha (finishLoad_word_eq ..) (finishLoad_word_eq ..) rfl rfl
  | sb => exact raised_access_resumed hh ha (finishStore_byte_eq (s.resumed settled out) ..) (finishStore_byte_eq s ..) rfl rfl
  | sw => exact raised_access_resumed hh ha (finishStore_word_eq ..) (finishStore_word_eq ..) rfl rfl
  | mtc0 rt rd low11 =>
    cases hw : Params.writable s.params rd with
    | true =>
      rw [exec_mtc0_of_writable (s := s.resumed settled out) rt low11 hw, exec_mtc0_of_writable rt low11 hw]
      exact (raised_of_halt_false rfl).trans (raised_of_halt_false hh).symm
    | false =>
      rw [exec_mtc0_of_not_writable (s := s.resumed settled out) rt low11 hw, exec_mtc0_of_not_writable rt low11 hw]
      rfl
  | addi | addiu | slti | sltiu | andi | ori | xori | sll | srl | sra | sllv | srlv | srav | add | addu | sub | subu | and | or
  | xor | slt | sltu | mult | multu | mfhi | mflo | mfc0 | cache => exact raised_finish_resumed hh rfl rfl
  | _ => rfl

/-- The fetch is answered alike, and what it finds raises alike. -/
theorem raised_step_resumed : raised (step (s.resumed settled out)) = raised (step s) := by
  have hw : (s.resumed settled out).answeredWord s.pc = s.answeredWord s.pc := (answeredWord_of_flat ha s.pc).symm
  cases hf : s.faults (.readWord s.pc) with
  | true => rw [step_of_fetchFault hh hf, step_of_fetchFault rfl ((faults_resumed ha _).trans hf)]; rfl
  | false =>
    have hf' : (s.resumed settled out).fetches (s.answeredWord s.pc) := ⟨(faults_resumed ha _).trans hf, hw⟩
    cases hd : decode (s.answeredWord s.pc) with
    | error e => rw [step_of_reserved hh ⟨hf, rfl⟩ hd, step_of_reserved rfl hf' hd]; rfl
    | ok i =>
      rw [step_of_decoded hh ⟨hf, rfl⟩ hd, step_of_decoded rfl hf' hd]
      exact raised_exec_resumed (s := s.called _) hh (congrArg List.tail ha) i

end Recurs

theorem link_link (s : State) : s.link.link = s.link := by simp [State.link, State.setX]

/-- Of the state at its start a branch reads nothing that the link write changes. -/
theorem branchIf_link (c : Bool) (w t : Word) (s u : State) : branchIf c w t s.link u = branchIf c w t s u := rfl

theorem exec_jal (target26 : BitVec 26) (s : State) :
    exec (.jal target26) s = branchIf true (encode (.jal target26)) (jumpTarget s.pc target26) s s.link := rfl

/-- A linking transfer after its own link write does what it did before: a branch that tests the link register is refused again, and
any other tests the same and links again. -/
theorem exec_link {i : Instr} (hi : shapeOf i = .linkTransfer) (s : State) : exec i s.link = exec i s := by
  cases i with
  | jal target26 => rw [exec_jal, exec_jal, link_link, link_pc, branchIf_link]
  | bltzal rs imm16 =>
    by_cases hr : rs = linkReg
    · exact (if_pos hr).trans (if_pos hr).symm
    · rw [exec_bltzal hr, exec_bltzal hr, ← link_eq_linked, ← link_eq_linked, link_link, link_getX_ne s rs hr, link_pc,
        branchIf_link]
  | bgezal rs imm16 =>
    by_cases hr : rs = linkReg
    · exact (if_pos hr).trans (if_pos hr).symm
    · rw [exec_bgezal hr, exec_bgezal hr, ← link_eq_linked, ← link_eq_linked, link_link, link_getX_ne s rs hr, link_pc,
        branchIf_link]
  | _ => cases hi

/-- So a step that runs a linking transfer does the same from the state after the link write. -/
theorem step_link {s : State} {w : Word} {i : Instr} (hh : s.halt = false) (hf : s.fetches w) (hd : decode w = .ok i)
    (hi : shapeOf i = .linkTransfer) : step s.link = step s := by
  have hcomm : s.link.called (.readWord s.link.pc) = (s.called (.readWord s.pc)).link := rfl
  rw [step_of_decoded hh hf hd, step_of_decoded (s := s.link) hh hf hd, hcomm, exec_link hi]

theorem resumed_of_haltedBy {d : Diagnostic} {s t : State} (h : HaltedBy d s t) (ha : t.answers = []) :
    { t with halt := false } = s.resumed t.settled t.out := by
  have hflat : { t with halt := false } = { t with halt := false, answers := [] } := by rw [← ha]
  exact hflat.trans (congrArg (fun u : State => { u with halt := false, answers := [], out := t.out }) h :)

/-- Behind `FlatMem` a step from where the core has halted by a fault raises that fault. -/
theorem raised_step_after_fault {s t : State} (ha : s.answers = []) (hh : s.halt = false) (h : step s = .next t)
    (ht : t.halt = true) : raised (step { t with halt := false }) = raised (step s) := by
  have hta : t.answers = [] := by rw [(portCallsPerStep s t hh h).2, ha, List.drop_nil]
  obtain ⟨d, -, -, -, hk | ⟨hk, -, i, hf, hd, hi⟩⟩ := step_faulted hh h ht
  · rw [resumed_of_haltedBy hk hta, raised_step_resumed hh ha]
  · rw [resumed_of_haltedBy hk hta, raised_step_resumed (s := s.link) hh ha, step_link hh hf hd hi]

theorem raised_eq_some_iff {o : Outcome} {d : Diagnostic} :
    raised o = some d ↔ ∃ t, o = .next t ∧ t.halt = true ∧ t.out.diagnostics.head? = some d := by
  cases o with
  | next t => simp [raised]
  | fault r => cases r
  | refused r => simp [raised]

/-- The host's step after a fault ends with that fault, and by `faultIsPrecise` changes neither `pc` nor memory. -/
theorem hostStep_after_fault {s t : State} {d : Diagnostic} (ha : s.answers = []) (hh : s.halt = false)
    (h : step s = .next t) (ht : t.halt = true) (hd : t.out.diagnostics = d :: s.out.diagnostics) :
    ∃ u, hostStep t = .next u ∧ u.halt = true ∧ u.pc = t.pc ∧ u.mem = t.mem ∧
      u.out.diagnostics = d :: t.out.diagnostics := by
  have hr : raised (step { t with halt := false }) = some d := by
    rw [raised_step_after_fault ha hh h ht, raised_eq_some_iff]
    exact ⟨t, h, ht, by rw [hd]; rfl⟩
  obtain ⟨u, hu, huh, hud⟩ := raised_eq_some_iff.1 hr
  obtain ⟨hpc, -, -, -, -, -, hmem, -, -, d', hd', -⟩ := faultIsPrecise _ u rfl hu huh
  obtain rfl : d' = d := by rw [hd'] at hud; exact Option.some.inj hud
  exact ⟨u.pulseRefresh, by rw [(oneRefreshPerTransaction.1 t).2, hu]; rfl, huh, hpc, hmem, hd'⟩

/-- Settles O60: what decides a fault is as it was, and the host's change of the memory is `changeMemory_eq` and its byte laws. -/
theorem faultRecursUntilMemoryChanges : Obligations.FaultRecursUntilMemoryChanges := by
  refine ⟨fun s t d => hostStep_after_fault, fun s bytes => ⟨s.changeMemory bytes, rfl, ?_⟩⟩
  rw [changeMemory_eq s bytes]
  refine ⟨fun _ => rfl, fun _ => rfl, rfl, rfl, rfl, rfl, rfl, rfl, rfl, rfl, rfl, fun k => changeMemory_read_ne s, ?_,
    fun b => mem_changeMemory_settled s⟩
  rintro before a v after rfl hafter hs
  exact changeMemory_read hafter before hs

end Sys2Proof.Machine
end
